-- ==== Sys2Proof/Word.lean ====
section
/-! DEFINITION. The word types of the command port and the register port
(R80, R81 of 30_encoding.md; R104 of 40_host_commands.md). -/

namespace Sys2Proof

/-- A command word on the port, or the value of `DOUT` (R80). -/
abbrev Word := BitVec 32

/-- The 4-bit opcode field `OPC` (R81). -/
abbrev OpcBits := BitVec 4

/-- The 4-bit voice field `V` (R81). -/
abbrev VoiceNum := BitVec 4

/-- The 8-bit field `A`: a register address, or a controller number in `SET_CTRL` (R81). -/
abbrev Addr := BitVec 8

/-- The 16-bit data field `D` (R81). -/
abbrev Data := BitVec 16

end Sys2Proof
end

