-- ==== Sys2Proof/Syntax.lean ====
section
/-! DEFINITION. The command set: one constructor per row of spec/opcode_table.json
(R82, R87 of 30_encoding.md). Operands are the fields the row uses; a field a command does not
use is ignored by the engine and is no operand (R84). -/

namespace Sys2Proof

/-- The commands of R82, in the table's order. -/
inductive Instr where
  /-- `NOP` (R100). -/
  | nop
  /-- `WR_REG v, A, D` (R101). -/
  | wrReg (v : VoiceNum) (a : Addr) (d : Data)
  /-- `RD_REG v, A` (R104). -/
  | rdReg (v : VoiceNum) (a : Addr)
  /-- `KEY_ON v` (R105). -/
  | keyOn (v : VoiceNum)
  /-- `KEY_OFF v` (R106). -/
  | keyOff (v : VoiceNum)
  /-- `SAMPLE v` (R109). -/
  | sample (v : VoiceNum)
  /-- `TICK v` (R110). -/
  | tick (v : VoiceNum)
  /-- `SET_CTRL v, N, D[6:0]` (R107). -/
  | setCtrl (v : VoiceNum) (n : Addr) (x : BitVec 7)
  /-- `SET_PBEND v, D[13:0]` (R108). -/
  | setPbend (v : VoiceNum) (x : BitVec 14)
  /-- Reserved opcode 0x9 (R111). -/
  | rsvd9
  /-- Reserved opcode 0xA (R111). -/
  | rsvdA
  /-- Reserved opcode 0xB (R111). -/
  | rsvdB
  /-- Reserved opcode 0xC (R111). -/
  | rsvdC
  /-- Reserved opcode 0xD (R111). -/
  | rsvdD
  /-- Reserved opcode 0xE (R111). -/
  | rsvdE
  /-- Reserved opcode 0xF (R111). -/
  | rsvdF
  deriving DecidableEq, Repr

end Sys2Proof
end

