-- ==== Sys2Proof/Config.lean ====
section
/-! DEFINITION. The fixed shapes of the engine (operators, segments, controller sources) and the
configuration record `Cfg` that holds every OPEN parameter of R6 of 00_scope.md. The defaults are
in Machine/Tables.lean; the shape checks of R6 are in WellFormed.lean. -/

namespace Sys2Proof

/-- The six operators, in the documented numbering 1 to 6 (R7). -/
inductive OpNum where
  | op1 | op2 | op3 | op4 | op5 | op6
  deriving DecidableEq, Repr

/-- The number 1 to 6 of an operator. -/
def OpNum.num : OpNum → Nat
  | .op1 => 1 | .op2 => 2 | .op3 => 3 | .op4 => 4 | .op5 => 5 | .op6 => 6

/-- The six operators in the order 1 to 6. -/
def OpNum.all : List OpNum := [.op1, .op2, .op3, .op4, .op5, .op6]

/-- One value for each operator. -/
structure PerOp (α : Type) where
  op1 : α
  op2 : α
  op3 : α
  op4 : α
  op5 : α
  op6 : α
  deriving DecidableEq, Repr

def PerOp.get {α : Type} (p : PerOp α) : OpNum → α
  | .op1 => p.op1 | .op2 => p.op2 | .op3 => p.op3
  | .op4 => p.op4 | .op5 => p.op5 | .op6 => p.op6

def PerOp.set {α : Type} (p : PerOp α) (o : OpNum) (x : α) : PerOp α :=
  match o with
  | .op1 => { p with op1 := x } | .op2 => { p with op2 := x } | .op3 => { p with op3 := x }
  | .op4 => { p with op4 := x } | .op5 => { p with op5 := x } | .op6 => { p with op6 := x }

def PerOp.map {α β : Type} (f : α → β) (p : PerOp α) : PerOp β :=
  ⟨f p.op1, f p.op2, f p.op3, f p.op4, f p.op5, f p.op6⟩

def PerOp.const {α : Type} (x : α) : PerOp α := ⟨x, x, x, x, x, x⟩

/-- The values in the order of operators 1 to 6. -/
def PerOp.toList {α : Type} (p : PerOp α) : List α :=
  [p.op1, p.op2, p.op3, p.op4, p.op5, p.op6]

/-- The four programmed segments of an envelope: index 0 Attack, 1 Decay1, 2 Decay2, 3 Release
(R24, R120). -/
inductive Seg where
  | attack | decay1 | decay2 | release
  deriving DecidableEq, Repr

/-- The index 0 to 3 of a segment. -/
def Seg.num : Seg → Nat
  | .attack => 0 | .decay1 => 1 | .decay2 => 2 | .release => 3

/-- One value for each segment. -/
structure PerSeg (α : Type) where
  attack : α
  decay1 : α
  decay2 : α
  release : α
  deriving DecidableEq, Repr

def PerSeg.get {α : Type} (p : PerSeg α) : Seg → α
  | .attack => p.attack | .decay1 => p.decay1 | .decay2 => p.decay2 | .release => p.release

def PerSeg.set {α : Type} (p : PerSeg α) (i : Seg) (x : α) : PerSeg α :=
  match i with
  | .attack => { p with attack := x } | .decay1 => { p with decay1 := x }
  | .decay2 => { p with decay2 := x } | .release => { p with release := x }

def PerSeg.const {α : Type} (x : α) : PerSeg α := ⟨x, x, x, x⟩

def PerSeg.toList {α : Type} (p : PerSeg α) : List α := [p.attack, p.decay1, p.decay2, p.release]

/-- The four controller sources: 0 mod wheel, 1 foot, 2 breath, 3 after-touch (R32, R200). -/
inductive Ctrl where
  | modWheel | foot | breath | afterTouch
  deriving DecidableEq, Repr

/-- The index 0 to 3 of a controller source. -/
def Ctrl.num : Ctrl → Nat
  | .modWheel => 0 | .foot => 1 | .breath => 2 | .afterTouch => 3

/-- The four sources in the order 0 to 3. -/
def Ctrl.all : List Ctrl := [.modWheel, .foot, .breath, .afterTouch]

/-- One value for each controller source. -/
structure PerCtrl (α : Type) where
  modWheel : α
  foot : α
  breath : α
  afterTouch : α
  deriving DecidableEq, Repr

def PerCtrl.get {α : Type} (p : PerCtrl α) : Ctrl → α
  | .modWheel => p.modWheel | .foot => p.foot | .breath => p.breath | .afterTouch => p.afterTouch

def PerCtrl.set {α : Type} (p : PerCtrl α) (i : Ctrl) (x : α) : PerCtrl α :=
  match i with
  | .modWheel => { p with modWheel := x } | .foot => { p with foot := x }
  | .breath => { p with breath := x } | .afterTouch => { p with afterTouch := x }

def PerCtrl.const {α : Type} (x : α) : PerCtrl α := ⟨x, x, x, x⟩

/-- `SEL` of an algorithm ROM entry: which value becomes `MOD` for the next operator evaluated
(R141, R153). Codes 6 and 7 are reserved. -/
inductive Sel where
  | zero | own | sum | mem | fb1 | fbPair | reserved6 | reserved7
  deriving DecidableEq, Repr

/-- One entry `ALG_ROM[a][o]`, the union of the source's three field lists (R141, C4). -/
structure AlgEntry where
  /-- `SEL`: modulation for the next operator evaluated. -/
  sel : Sel
  /-- `FBEN`: this operator's output is shifted into the feedback registers. -/
  fben : Bool
  /-- `MR`: a write of the memory register adds to its old value. -/
  mr : Bool
  /-- `MW`: this operator's output goes into the memory register. -/
  mw : Bool
  /-- `CAR`: this operator is a carrier. -/
  car : Bool
  /-- `COM`: 3-bit index into `COMP_ATT`. -/
  com : Fin 8
  deriving DecidableEq, Repr

/-- `NALG`, fixed: 32 algorithms (R6). -/
def nAlg : Nat := 32

/-- `OUT_MAG_W`, fixed: magnitude bits of an operator output (R6, R149). -/
def outMagW : Nat := 14

/-- `FS_REF`, fixed and informative: the reference sample rate in Hz; no rule reads it (R6, R247). -/
def fsRef : Nat := 49096

/-- `TICK_REF`, fixed and informative: the reference control rate in Hz; no rule reads it (R6, R247). -/
def tickRef : Nat := 375

/-- A read-only table: `size` entries of `width` bits, entry `i` at bits `width*i + width - 1` down
to `width*i` of `image`. The read is `tbl` of Machine/Arith.lean. -/
structure Rom where
  width : Nat
  size : Nat
  image : Nat
  deriving DecidableEq, Repr

/-- The configuration record of R6: every parameter and table the source leaves to the
implementation. It is fixed before reset and no command changes it (R20, R263). -/
structure Cfg where
  /-- `NVOICE`: voice slots, 1 to 16. -/
  nvoice : Nat
  /-- `PHASE_W`: phase accumulator width. -/
  phaseW : Nat
  /-- `PHI_W`: phase index width. -/
  phiW : Nat
  /-- `LOG_W`: width of a log-domain attenuation. -/
  logW : Nat
  /-- `ACC_W`: width of `MEM`, `SUM`, `MOD`, `OUT` (signed). -/
  accW : Nat
  /-- `EG_W`: width of the envelope's current attenuation. -/
  egW : Nat
  /-- `ATT_W`: width of the envelope's output attenuation. -/
  attW : Nat
  /-- `EG_CODE_W`: width of an envelope rate or level code. -/
  egCodeW : Nat
  /-- `MOD_SHIFT`: right shift of a modulation value. -/
  modShift : Nat
  /-- `FB_BASE`: the feedback shift is `FB_BASE - FBL`. -/
  fbBase : Nat
  /-- `PITCH_OCT`: pitch units per octave. -/
  pitchOct : Nat
  /-- `DETUNE_STEP`: pitch units per detune step. -/
  detuneStep : Nat
  /-- `PB_SHIFT`: right shift of the centred pitch bend. -/
  pbShift : Nat
  /-- `PMOD_SHIFT`: right shift of the pitch modulation product. -/
  pmodShift : Nat
  /-- `MIX_K`: controller scaling factor. -/
  mixK : Nat
  /-- `MIX_SHIFT`: controller scaling shift. -/
  mixShift : Nat
  /-- `LCG_A`: multiplier of the sample-and-hold generator. -/
  lcgA : Nat
  /-- `LCG_C`: increment of the sample-and-hold generator. -/
  lcgC : Nat
  /-- `LCG_SEED`: its value at reset. -/
  lcgSeed : Nat
  /-- `AT_NUM`: the controller number that carries after-touch. -/
  atNum : Nat
  /-- `LSQ`: quarter-wave log-sine table, 1024 entries. -/
  lsq : Rom
  /-- `EXPM`: exponential mantissa table, 1024 entries. -/
  expm : Rom
  /-- `FREQM`: pitch fraction to increment mantissa, 4096 entries. -/
  freqm : Rom
  /-- `LFO_SINE`: quarter-wave LFO sine, 64 entries. -/
  lfoSine : Rom
  /-- `EG_INC`: envelope rate code to increment, 64 entries. -/
  egInc : Rom
  /-- `PMS_GAIN`: pitch modulation sensitivity gains, 8 entries. -/
  pmsGain : Rom
  /-- `AMS_GAIN`: amplitude modulation sensitivity gains, 4 entries. -/
  amsGain : Rom
  /-- `COMP_ATT`: level compensation by `COM` code, 8 entries. -/
  compAtt : Rom
  /-- `ALG_ROM`: 32 rows of six entries. -/
  algRom : List (PerOp AlgEntry)
  deriving DecidableEq, Repr

end Sys2Proof
end

