-- ==== Sys2Proof/Machine/Arith.lean ====
section
/-! DEFINITION. The arithmetic primitives of R8 of 00_scope.md. Sums and products are exact on
`Nat` and `Int`; each rule narrows its result by one of these. -/

namespace Sys2Proof.Machine

/-- `wrap_N(x) = x mod 2^N` (R8). -/
def wrap (n x : Nat) : Nat := x % 2 ^ n

/-- `wrap_N(x)` of an integer that may be negative (R8, R145). -/
def wrapInt (n : Nat) (x : Int) : Nat := (x % ((2 ^ n : Nat) : Int)).toNat

/-- `swrap_N(x)`: the signed `N`-bit value congruent to `x` modulo `2^N` (R8). -/
def swrap (n : Nat) (x : Int) : Int := x.bmod (2 ^ n)

/-- `asr(x, n) = floor(x / 2^n)`: rounds toward minus infinity (R8). -/
def asr (x : Int) (n : Nat) : Int := x / ((2 ^ n : Nat) : Int)

/-- `sat_N(x) = min(x, 2^N - 1)` (R8). -/
def sat (n x : Nat) : Nat := min x (2 ^ n - 1)

/-- `clamp(x, lo, hi) = min(max(x, lo), hi)` (R8). -/
def clamp (x lo hi : Int) : Int := min (max x lo) hi

/-- Table read (R9). The index is in range in every rule when the configuration is well-formed;
elsewhere an entry that does not exist reads 0 (DESIGN CHOICE, safe: notes/assumptions/9.md). -/
def tbl (t : Rom) (i : Nat) : Nat :=
  if i < t.size then (t.image >>> (t.width * i)) % 2 ^ t.width else 0

/-- A linear move of `cur` toward `tgt` by `inc` that stops exactly on the target and never passes
it: the common part of R128 (amplitude envelope) and R192 (pitch envelope). -/
def moveToward (cur tgt inc : Nat) : Nat :=
  if cur < tgt then min (cur + inc) tgt
  else if tgt < cur then max (cur - inc) tgt
  else cur

/-- The signed value `v` fits `n` bits of two's complement (R7). -/
def fitsSigned (n : Nat) (v : Int) : Bool :=
  -((2 ^ (n - 1) : Nat) : Int) ≤ v && v < ((2 ^ (n - 1) : Nat) : Int)

end Sys2Proof.Machine
end

