-- ==== Sys2Proof/WellFormed.lean ====
section
/-! DEFINITION. What is well-formed: a command, and the configuration record `Cfg`, whose shape
constraints R6 of 00_scope.md asks a model to check when it builds one ("a table of the wrong
length or with an entry out of range is refused, not repaired"). -/

namespace Sys2Proof

/-- Every command is well-formed: its operands are bit fields of exactly the width of the field
they come from (R81), and the engine gives every value of every field a meaning (R84, R85, R42). -/
def Instr.wf : Instr → Bool
  | .nop => true
  | .wrReg _ _ _ => true
  | .rdReg _ _ => true
  | .keyOn _ => true
  | .keyOff _ => true
  | .sample _ => true
  | .tick _ => true
  | .setCtrl _ _ _ => true
  | .setPbend _ _ => true
  | .rsvd9 => true
  | .rsvdA => true
  | .rsvdB => true
  | .rsvdC => true
  | .rsvdD => true
  | .rsvdE => true
  | .rsvdF => true

/-- Every number below `n` passes the test. -/
def allBelow (n : Nat) (p : Nat → Bool) : Bool :=
  match n with
  | 0 => true
  | k + 1 => p k && allBelow k p

/-- The table has `n` entries and every one passes the test. -/
def romHas (t : Rom) (n : Nat) (p : Nat → Bool) : Bool :=
  t.size == n && allBelow n fun i => p (Machine.tbl t i)

/-- `NVOICE` is 1 to 16 (R6). -/
def Cfg.nvoiceOk (c : Cfg) : Bool := 1 ≤ c.nvoice && c.nvoice ≤ 16

/-- The widths fit each other: the phase index is the top bits of the accumulator (R145), the
envelope output the top bits of `EG_CUR` (R129), targets fill its top eight bits (R124), an
accumulator has a sign bit, and what the status addresses show fits the 32 bits of `DOUT` (R43)
(DEDUCED: notes/assumptions/8.md). -/
def Cfg.widthsOk (c : Cfg) : Bool :=
  c.phiW ≤ c.phaseW && c.attW ≤ c.egW && c.attW ≤ 32 && 8 ≤ c.egW && 1 ≤ c.accW && c.accW ≤ 32

/-- `FB_BASE - FBL` is a shift amount for every `FBL` (R153; DEDUCED: notes/assumptions/8.md). -/
def Cfg.fbBaseOk (c : Cfg) : Bool := 7 ≤ c.fbBase

/-- The sample-and-hold generator is 8 bits wide (R6, R175). -/
def Cfg.lcgOk (c : Cfg) : Bool := c.lcgA < 256 && c.lcgC < 256 && c.lcgSeed < 256

/-- `AT_NUM` is a value of the 8-bit controller number field (R41). -/
def Cfg.atNumOk (c : Cfg) : Bool := c.atNum < 256

/-- `LSQ[0..1023]`, each entry 0 to 16383; it holds a quarter wave of the phase index (R6, R146). -/
def Cfg.lsqOk (c : Cfg) : Bool :=
  romHas c.lsq 1024 (· ≤ 16383) && 2 ≤ c.phiW && 2 ^ (c.phiW - 2) == 1024

/-- `EXPM[0..1023]`, each entry 0 to 16383, non-increasing (R6). -/
def Cfg.expmOk (c : Cfg) : Bool :=
  romHas c.expm 1024 (· ≤ 16383) &&
    allBelow 1023 fun i => Machine.tbl c.expm (i + 1) ≤ Machine.tbl c.expm i

/-- `FREQM[0..4095]`, each entry 65536 to 131071, non-decreasing; one octave of pitch units
(R6, R209). -/
def Cfg.freqmOk (c : Cfg) : Bool :=
  romHas c.freqm 4096 (fun x => 65536 ≤ x && x ≤ 131071) && c.pitchOct == 4096 &&
    allBelow 4095 fun i => Machine.tbl c.freqm i ≤ Machine.tbl c.freqm (i + 1)

/-- `LFO_SINE[0..63]`, each entry 0 to 127 (R6). -/
def Cfg.lfoSineOk (c : Cfg) : Bool := romHas c.lfoSine 64 (· ≤ 127)

/-- `EG_INC[0..63]`, one entry for each rate code, each 0 to 2^24-1 (R6, R125). -/
def Cfg.egIncOk (c : Cfg) : Bool :=
  romHas c.egInc 64 (· < 16777216) && 2 ^ c.egCodeW == 64

/-- `PMS_GAIN[0..7]`, 0 to 255 (R6). -/
def Cfg.pmsGainOk (c : Cfg) : Bool := romHas c.pmsGain 8 (· ≤ 255)

/-- `AMS_GAIN[0..3]`, 0 to 255 (R6). -/
def Cfg.amsGainOk (c : Cfg) : Bool := romHas c.amsGain 4 (· ≤ 255)

/-- `COMP_ATT[0..7]` (R6). -/
def Cfg.compAttOk (c : Cfg) : Bool := c.compAtt.size == 8

/-- `ALG_ROM` has 32 rows (R6, R158); a row has six entries by its type. -/
def Cfg.algRomOk (c : Cfg) : Bool := c.algRom.length == nAlg

/-- The shape checks of R6, all of them. -/
def Cfg.wf (c : Cfg) : Bool :=
  c.nvoiceOk && c.widthsOk && c.fbBaseOk && c.lcgOk && c.atNumOk && c.lsqOk && c.expmOk &&
    c.freqmOk && c.lfoSineOk && c.egIncOk && c.pmsGainOk && c.amsGainOk && c.compAttOk && c.algRomOk

end Sys2Proof
end

