-- ==== Sys2Proof/Decode.lean ====
section
/-! DEFINITION. The command word (R80 to R88 of 30_encoding.md): field extraction, the opcode map,
the decoder and the encoder. Every 32-bit word is one of the sixteen rows (R87), so the decoder
rejects nothing: the reserved opcodes decode to the rows `RSVD9` to `RSVDF` by name. -/

namespace Sys2Proof

/-- `OPC = W[31:28]` (R81). -/
def fieldOpc (w : Word) : OpcBits := w.extractLsb' 28 4

/-- `V = W[27:24]` (R81). -/
def fieldV (w : Word) : VoiceNum := w.extractLsb' 24 4

/-- `A = W[23:16]` (R81). -/
def fieldA (w : Word) : Addr := w.extractLsb' 16 8

/-- `D = W[15:0]` (R81). -/
def fieldD (w : Word) : Data := w.extractLsb' 0 16

/-- The rows of the opcode map (R82, R87), in the order of their codes 0x0 to 0xF. -/
inductive Opcode where
  | nop | wrReg | rdReg | keyOn | keyOff | sample | tick | setCtrl | setPbend
  | rsvd9 | rsvdA | rsvdB | rsvdC | rsvdD | rsvdE | rsvdF
  deriving DecidableEq, Repr

/-- The opcode map of R82, read from a code. -/
def opcodeOf (b : OpcBits) : Opcode :=
  match b.toNat with
  | 0x0 => .nop
  | 0x1 => .wrReg
  | 0x2 => .rdReg
  | 0x3 => .keyOn
  | 0x4 => .keyOff
  | 0x5 => .sample
  | 0x6 => .tick
  | 0x7 => .setCtrl
  | 0x8 => .setPbend
  | 0x9 => .rsvd9
  | 0xA => .rsvdA
  | 0xB => .rsvdB
  | 0xC => .rsvdC
  | 0xD => .rsvdD
  | 0xE => .rsvdE
  | _ => .rsvdF

/-- The opcode map of R82, written. -/
def opcodeBits : Opcode → OpcBits
  | .nop => 0x0
  | .wrReg => 0x1
  | .rdReg => 0x2
  | .keyOn => 0x3
  | .keyOff => 0x4
  | .sample => 0x5
  | .tick => 0x6
  | .setCtrl => 0x7
  | .setPbend => 0x8
  | .rsvd9 => 0x9
  | .rsvdA => 0xA
  | .rsvdB => 0xB
  | .rsvdC => 0xC
  | .rsvdD => 0xD
  | .rsvdE => 0xE
  | .rsvdF => 0xF

/-- One row of spec/opcode_table.json: a word `w` is this command when `w & mask = match` (R87). -/
structure OpcodeRow where
  opcode : Opcode
  pattern : Word
  mask : Word
  deriving DecidableEq, Repr

/-- The row matches the word (R84: only `OPC` selects the command). -/
def OpcodeRow.hits (r : OpcodeRow) (w : Word) : Bool := w &&& r.mask == r.pattern

/-- spec/opcode_table.json, row by row (R87). -/
def opcodeTable : List OpcodeRow := [
  ⟨.nop, 0x00000000, 0xF0000000⟩,
  ⟨.wrReg, 0x10000000, 0xF0000000⟩,
  ⟨.rdReg, 0x20000000, 0xF0000000⟩,
  ⟨.keyOn, 0x30000000, 0xF0000000⟩,
  ⟨.keyOff, 0x40000000, 0xF0000000⟩,
  ⟨.sample, 0x50000000, 0xF0000000⟩,
  ⟨.tick, 0x60000000, 0xF0000000⟩,
  ⟨.setCtrl, 0x70000000, 0xF0000000⟩,
  ⟨.setPbend, 0x80000000, 0xF0000000⟩,
  ⟨.rsvd9, 0x90000000, 0xF0000000⟩,
  ⟨.rsvdA, 0xA0000000, 0xF0000000⟩,
  ⟨.rsvdB, 0xB0000000, 0xF0000000⟩,
  ⟨.rsvdC, 0xC0000000, 0xF0000000⟩,
  ⟨.rsvdD, 0xD0000000, 0xF0000000⟩,
  ⟨.rsvdE, 0xE0000000, 0xF0000000⟩,
  ⟨.rsvdF, 0xF0000000, 0xF0000000⟩]

/-- The decoder: `OPC` selects the command, its operands are the fields it uses, the rest of the
word is ignored (R82, R83, R84). `SET_CTRL` keeps `D[6:0]`, `SET_PBEND` keeps `D[13:0]`. -/
def decode (w : Word) : Instr :=
  match opcodeOf (fieldOpc w) with
  | .nop => .nop
  | .wrReg => .wrReg (fieldV w) (fieldA w) (fieldD w)
  | .rdReg => .rdReg (fieldV w) (fieldA w)
  | .keyOn => .keyOn (fieldV w)
  | .keyOff => .keyOff (fieldV w)
  | .sample => .sample (fieldV w)
  | .tick => .tick (fieldV w)
  | .setCtrl => .setCtrl (fieldV w) (fieldA w) ((fieldD w).setWidth 7)
  | .setPbend => .setPbend (fieldV w) ((fieldD w).setWidth 14)
  | .rsvd9 => .rsvd9
  | .rsvdA => .rsvdA
  | .rsvdB => .rsvdB
  | .rsvdC => .rsvdC
  | .rsvdD => .rsvdD
  | .rsvdE => .rsvdE
  | .rsvdF => .rsvdF

/-- `enc(OPC, V, A, D)` of R88: the four fields side by side, `OPC` highest. -/
def enc (opc : OpcBits) (v : VoiceNum) (a : Addr) (d : Data) : Word := opc ++ v ++ a ++ d

/-- The row a command belongs to (R82). -/
def Instr.opcode : Instr → Opcode
  | .nop => .nop
  | .wrReg _ _ _ => .wrReg
  | .rdReg _ _ => .rdReg
  | .keyOn _ => .keyOn
  | .keyOff _ => .keyOff
  | .sample _ => .sample
  | .tick _ => .tick
  | .setCtrl _ _ _ => .setCtrl
  | .setPbend _ _ => .setPbend
  | .rsvd9 => .rsvd9
  | .rsvdA => .rsvdA
  | .rsvdB => .rsvdB
  | .rsvdC => .rsvdC
  | .rsvdD => .rsvdD
  | .rsvdE => .rsvdE
  | .rsvdF => .rsvdF

/-- The encoder: the word of a command, with 0 in every field it does not use (R84). -/
def encode (i : Instr) : Word :=
  let opc := opcodeBits i.opcode
  match i with
  | .nop => enc opc 0 0 0
  | .wrReg v a d => enc opc v a d
  | .rdReg v a => enc opc v a 0
  | .keyOn v => enc opc v 0 0
  | .keyOff v => enc opc v 0 0
  | .sample v => enc opc v 0 0
  | .tick v => enc opc v 0 0
  | .setCtrl v n x => enc opc v n (x.setWidth 16)
  | .setPbend v x => enc opc v 0 (x.setWidth 16)
  | .rsvd9 => enc opc 0 0 0
  | .rsvdA => enc opc 0 0 0
  | .rsvdB => enc opc 0 0 0
  | .rsvdC => enc opc 0 0 0
  | .rsvdD => enc opc 0 0 0
  | .rsvdE => enc opc 0 0 0
  | .rsvdF => enc opc 0 0 0

/-- The mnemonic of R82, as the opcode table spells it. -/
def Instr.mnemonic : Instr → String
  | .nop => "NOP"
  | .wrReg _ _ _ => "WR_REG"
  | .rdReg _ _ => "RD_REG"
  | .keyOn _ => "KEY_ON"
  | .keyOff _ => "KEY_OFF"
  | .sample _ => "SAMPLE"
  | .tick _ => "TICK"
  | .setCtrl _ _ _ => "SET_CTRL"
  | .setPbend _ _ => "SET_PBEND"
  | .rsvd9 => "RSVD9"
  | .rsvdA => "RSVDA"
  | .rsvdB => "RSVDB"
  | .rsvdC => "RSVDC"
  | .rsvdD => "RSVDD"
  | .rsvdE => "RSVDE"
  | .rsvdF => "RSVDF"

/-- The command text `MNEMONIC v, A, D` of R88, numbers in decimal, unused operands left out. -/
def Instr.text (i : Instr) : String :=
  match i with
  | .wrReg v a d =>
    i.mnemonic ++ " " ++ toString v.toNat ++ ", " ++ toString a.toNat ++ ", " ++ toString d.toNat
  | .rdReg v a => i.mnemonic ++ " " ++ toString v.toNat ++ ", " ++ toString a.toNat
  | .keyOn v => i.mnemonic ++ " " ++ toString v.toNat
  | .keyOff v => i.mnemonic ++ " " ++ toString v.toNat
  | .sample v => i.mnemonic ++ " " ++ toString v.toNat
  | .tick v => i.mnemonic ++ " " ++ toString v.toNat
  | .setCtrl v n x =>
    i.mnemonic ++ " " ++ toString v.toNat ++ ", " ++ toString n.toNat ++ ", " ++ toString x.toNat
  | .setPbend v x => i.mnemonic ++ " " ++ toString v.toNat ++ ", " ++ toString x.toNat
  | .nop => i.mnemonic
  | .rsvd9 => i.mnemonic
  | .rsvdA => i.mnemonic
  | .rsvdB => i.mnemonic
  | .rsvdC => i.mnemonic
  | .rsvdD => i.mnemonic
  | .rsvdE => i.mnemonic
  | .rsvdF => i.mnemonic

/-- The instruction the decoder reads from the table's `nbits` bits `w`, every higher bit 0. A
command is one 32-bit quantity presented at once, so no byte order arises (R60, R80). -/
def decodeTableWord (nbits w : Nat) : Option Instr := some (decode (BitVec.ofNat 32 (w % 2 ^ nbits)))

end Sys2Proof
end

