-- ==== Sys2Proof/Machine/Tables.lean ====
section
/-! DEFINITION. The spec's default contents of the OPEN tables and parameters of R6 of
00_scope.md, entry by entry from spec/tables_default.json, and the algorithm ROM of R157 of
42_ops_algorithm.md. UNVERIFIED, unsafe: the values are the spec's own choice and were checked
against no hardware (R5; notes/assumptions/4.md); the graphs of the ROM are from general knowledge
(PRESUMED, unsafe, notes/assumptions/5.md). -/

namespace Sys2Proof.Machine

/-- The image of one row of entries, the first entry lowest. -/
def rowImage (w : Nat) (row : List Nat) : Nat := row.foldr (fun x acc => x + acc * 2 ^ w) 0

/-- A table from its rows of at most 16 entries of `w` bits each, all rows but the last full. -/
def romOf (w : Nat) (rows : List (List Nat)) : Rom :=
  { width := w
    size := (rows.map List.length).sum
    image := rows.foldr (fun row acc => rowImage w row + acc * 2 ^ (16 * w)) 0 }

/-- Entries 0 to 511 of `LSQ`. -/
def defaultLsqPart0 : List (List Nat) := [
  [10597, 8974, 8219, 7722, 7351, 7054, 6808, 6596, 6411, 6247, 6099, 5965, 5842, 5728, 5622, 5524],
  [5432, 5345, 5263, 5185, 5111, 5041, 4974, 4909, 4848, 4789, 4732, 4677, 4624, 4574, 4524, 4477],
  [4431, 4386, 4342, 4300, 4259, 4219, 4181, 4143, 4106, 4070, 4035, 4000, 3967, 3934, 3902, 3871],
  [3840, 3810, 3780, 3751, 3723, 3695, 3668, 3641, 3615, 3589, 3564, 3539, 3514, 3490, 3466, 3443],
  [3420, 3397, 3375, 3353, 3331, 3310, 3289, 3268, 3248, 3228, 3208, 3188, 3169, 3150, 3131, 3112],
  [3094, 3076, 3058, 3040, 3023, 3005, 2988, 2971, 2955, 2938, 2922, 2906, 2890, 2874, 2858, 2843],
  [2828, 2812, 2798, 2783, 2768, 2754, 2739, 2725, 2711, 2697, 2683, 2669, 2656, 2642, 2629, 2616],
  [2603, 2590, 2577, 2564, 2552, 2539, 2527, 2515, 2502, 2490, 2478, 2467, 2455, 2443, 2432, 2420],
  [2409, 2397, 2386, 2375, 2364, 2353, 2342, 2331, 2321, 2310, 2300, 2289, 2279, 2268, 2258, 2248],
  [2238, 2228, 2218, 2208, 2198, 2188, 2179, 2169, 2160, 2150, 2141, 2131, 2122, 2113, 2104, 2095],
  [2086, 2077, 2068, 2059, 2050, 2041, 2032, 2024, 2015, 2007, 1998, 1990, 1981, 1973, 1965, 1957],
  [1948, 1940, 1932, 1924, 1916, 1908, 1900, 1892, 1885, 1877, 1869, 1861, 1854, 1846, 1839, 1831],
  [1824, 1816, 1809, 1801, 1794, 1787, 1780, 1772, 1765, 1758, 1751, 1744, 1737, 1730, 1723, 1716],
  [1709, 1703, 1696, 1689, 1682, 1676, 1669, 1662, 1656, 1649, 1643, 1636, 1630, 1623, 1617, 1610],
  [1604, 1598, 1592, 1585, 1579, 1573, 1567, 1561, 1555, 1548, 1542, 1536, 1530, 1525, 1519, 1513],
  [1507, 1501, 1495, 1489, 1484, 1478, 1472, 1466, 1461, 1455, 1449, 1444, 1438, 1433, 1427, 1422],
  [1416, 1411, 1405, 1400, 1395, 1389, 1384, 1379, 1373, 1368, 1363, 1358, 1352, 1347, 1342, 1337],
  [1332, 1327, 1322, 1317, 1312, 1307, 1302, 1297, 1292, 1287, 1282, 1277, 1272, 1267, 1262, 1258],
  [1253, 1248, 1243, 1239, 1234, 1229, 1224, 1220, 1215, 1211, 1206, 1201, 1197, 1192, 1188, 1183],
  [1179, 1174, 1170, 1165, 1161, 1156, 1152, 1148, 1143, 1139, 1135, 1130, 1126, 1122, 1117, 1113],
  [1109, 1105, 1100, 1096, 1092, 1088, 1084, 1080, 1076, 1071, 1067, 1063, 1059, 1055, 1051, 1047],
  [1043, 1039, 1035, 1031, 1027, 1023, 1019, 1016, 1012, 1008, 1004, 1000, 996, 992, 989, 985],
  [981, 977, 973, 970, 966, 962, 959, 955, 951, 948, 944, 940, 937, 933, 929, 926],
  [922, 919, 915, 912, 908, 905, 901, 898, 894, 891, 887, 884, 880, 877, 873, 870],
  [867, 863, 860, 857, 853, 850, 847, 843, 840, 837, 833, 830, 827, 824, 820, 817],
  [814, 811, 807, 804, 801, 798, 795, 792, 788, 785, 782, 779, 776, 773, 770, 767],
  [764, 761, 758, 755, 752, 749, 746, 743, 740, 737, 734, 731, 728, 725, 722, 719],
  [716, 713, 710, 708, 705, 702, 699, 696, 693, 690, 688, 685, 682, 679, 676, 674],
  [671, 668, 665, 663, 660, 657, 655, 652, 649, 646, 644, 641, 638, 636, 633, 631],
  [628, 625, 623, 620, 617, 615, 612, 610, 607, 605, 602, 600, 597, 594, 592, 589],
  [587, 584, 582, 579, 577, 575, 572, 570, 567, 565, 562, 560, 558, 555, 553, 550],
  [548, 546, 543, 541, 539, 536, 534, 532, 529, 527, 525, 522, 520, 518, 515, 513]]

/-- Entries 512 to 1023 of `LSQ`. -/
def defaultLsqPart1 : List (List Nat) := [
  [511, 509, 506, 504, 502, 500, 497, 495, 493, 491, 489, 486, 484, 482, 480, 478],
  [476, 473, 471, 469, 467, 465, 463, 461, 459, 456, 454, 452, 450, 448, 446, 444],
  [442, 440, 438, 436, 434, 432, 430, 428, 426, 424, 422, 420, 418, 416, 414, 412],
  [410, 408, 406, 404, 402, 400, 398, 396, 394, 393, 391, 389, 387, 385, 383, 381],
  [379, 378, 376, 374, 372, 370, 368, 367, 365, 363, 361, 359, 358, 356, 354, 352],
  [350, 349, 347, 345, 343, 342, 340, 338, 337, 335, 333, 331, 330, 328, 326, 325],
  [323, 321, 320, 318, 316, 315, 313, 311, 310, 308, 306, 305, 303, 302, 300, 298],
  [297, 295, 294, 292, 290, 289, 287, 286, 284, 283, 281, 280, 278, 276, 275, 273],
  [272, 270, 269, 267, 266, 264, 263, 261, 260, 258, 257, 256, 254, 253, 251, 250],
  [248, 247, 245, 244, 243, 241, 240, 238, 237, 236, 234, 233, 232, 230, 229, 227],
  [226, 225, 223, 222, 221, 219, 218, 217, 215, 214, 213, 211, 210, 209, 208, 206],
  [205, 204, 202, 201, 200, 199, 197, 196, 195, 194, 192, 191, 190, 189, 187, 186],
  [185, 184, 183, 181, 180, 179, 178, 177, 175, 174, 173, 172, 171, 170, 169, 167],
  [166, 165, 164, 163, 162, 161, 159, 158, 157, 156, 155, 154, 153, 152, 151, 150],
  [149, 148, 146, 145, 144, 143, 142, 141, 140, 139, 138, 137, 136, 135, 134, 133],
  [132, 131, 130, 129, 128, 127, 126, 125, 124, 123, 122, 121, 120, 119, 118, 117],
  [116, 116, 115, 114, 113, 112, 111, 110, 109, 108, 107, 106, 106, 105, 104, 103],
  [102, 101, 100, 99, 99, 98, 97, 96, 95, 94, 94, 93, 92, 91, 90, 89],
  [89, 88, 87, 86, 85, 85, 84, 83, 82, 81, 81, 80, 79, 78, 78, 77],
  [76, 75, 75, 74, 73, 72, 72, 71, 70, 70, 69, 68, 67, 67, 66, 65],
  [65, 64, 63, 63, 62, 61, 61, 60, 59, 59, 58, 57, 57, 56, 55, 55],
  [54, 54, 53, 52, 52, 51, 51, 50, 49, 49, 48, 48, 47, 46, 46, 45],
  [45, 44, 44, 43, 42, 42, 41, 41, 40, 40, 39, 39, 38, 38, 37, 37],
  [36, 36, 35, 35, 34, 34, 33, 33, 32, 32, 31, 31, 30, 30, 29, 29],
  [28, 28, 28, 27, 27, 26, 26, 25, 25, 25, 24, 24, 23, 23, 23, 22],
  [22, 21, 21, 21, 20, 20, 19, 19, 19, 18, 18, 18, 17, 17, 17, 16],
  [16, 16, 15, 15, 15, 14, 14, 14, 13, 13, 13, 12, 12, 12, 12, 11],
  [11, 11, 10, 10, 10, 10, 9, 9, 9, 9, 8, 8, 8, 8, 7, 7],
  [7, 7, 7, 6, 6, 6, 6, 6, 5, 5, 5, 5, 5, 4, 4, 4],
  [4, 4, 4, 3, 3, 3, 3, 3, 3, 3, 2, 2, 2, 2, 2, 2],
  [2, 2, 2, 1, 1, 1, 1, 1, 1, 1, 1, 1, 1, 1, 1, 0],
  [0, 0, 0, 0, 0, 0, 0, 0, 0, 0, 0, 0, 0, 0, 0, 0]]

/-- `LSQ[0..1023]`: the default quarter-wave log-sine table (R146, D30). -/
def defaultLsq : Rom := romOf 14 (List.flatten
  [defaultLsqPart0, defaultLsqPart1])

/-- Entries 0 to 511 of `EXPM`. -/
def defaultExpmPart0 : List (List Nat) := [
  [16383, 16372, 16361, 16350, 16339, 16328, 16317, 16306, 16295, 16283, 16272, 16261, 16250, 16239, 16228, 16217],
  [16207, 16196, 16185, 16174, 16163, 16152, 16141, 16130, 16119, 16108, 16097, 16086, 16075, 16065, 16054, 16043],
  [16032, 16021, 16010, 15999, 15989, 15978, 15967, 15956, 15945, 15935, 15924, 15913, 15902, 15891, 15881, 15870],
  [15859, 15849, 15838, 15827, 15816, 15806, 15795, 15784, 15774, 15763, 15752, 15742, 15731, 15720, 15710, 15699],
  [15688, 15678, 15667, 15657, 15646, 15635, 15625, 15614, 15604, 15593, 15583, 15572, 15561, 15551, 15540, 15530],
  [15519, 15509, 15498, 15488, 15477, 15467, 15457, 15446, 15436, 15425, 15415, 15404, 15394, 15383, 15373, 15363],
  [15352, 15342, 15331, 15321, 15311, 15300, 15290, 15280, 15269, 15259, 15249, 15238, 15228, 15218, 15207, 15197],
  [15187, 15177, 15166, 15156, 15146, 15136, 15125, 15115, 15105, 15095, 15084, 15074, 15064, 15054, 15044, 15033],
  [15023, 15013, 15003, 14993, 14983, 14973, 14962, 14952, 14942, 14932, 14922, 14912, 14902, 14892, 14882, 14872],
  [14861, 14851, 14841, 14831, 14821, 14811, 14801, 14791, 14781, 14771, 14761, 14751, 14741, 14731, 14721, 14711],
  [14701, 14691, 14681, 14672, 14662, 14652, 14642, 14632, 14622, 14612, 14602, 14592, 14582, 14573, 14563, 14553],
  [14543, 14533, 14523, 14513, 14504, 14494, 14484, 14474, 14464, 14455, 14445, 14435, 14425, 14416, 14406, 14396],
  [14386, 14377, 14367, 14357, 14347, 14338, 14328, 14318, 14309, 14299, 14289, 14280, 14270, 14260, 14251, 14241],
  [14231, 14222, 14212, 14202, 14193, 14183, 14174, 14164, 14155, 14145, 14135, 14126, 14116, 14107, 14097, 14088],
  [14078, 14069, 14059, 14050, 14040, 14031, 14021, 14012, 14002, 13993, 13983, 13974, 13964, 13955, 13945, 13936],
  [13926, 13917, 13908, 13898, 13889, 13879, 13870, 13861, 13851, 13842, 13832, 13823, 13814, 13804, 13795, 13786],
  [13776, 13767, 13758, 13748, 13739, 13730, 13721, 13711, 13702, 13693, 13683, 13674, 13665, 13656, 13646, 13637],
  [13628, 13619, 13610, 13600, 13591, 13582, 13573, 13564, 13554, 13545, 13536, 13527, 13518, 13509, 13499, 13490],
  [13481, 13472, 13463, 13454, 13445, 13436, 13427, 13417, 13408, 13399, 13390, 13381, 13372, 13363, 13354, 13345],
  [13336, 13327, 13318, 13309, 13300, 13291, 13282, 13273, 13264, 13255, 13246, 13237, 13228, 13219, 13210, 13201],
  [13192, 13183, 13174, 13166, 13157, 13148, 13139, 13130, 13121, 13112, 13103, 13094, 13086, 13077, 13068, 13059],
  [13050, 13041, 13033, 13024, 13015, 13006, 12997, 12989, 12980, 12971, 12962, 12953, 12945, 12936, 12927, 12918],
  [12910, 12901, 12892, 12883, 12875, 12866, 12857, 12849, 12840, 12831, 12823, 12814, 12805, 12797, 12788, 12779],
  [12771, 12762, 12753, 12745, 12736, 12727, 12719, 12710, 12702, 12693, 12684, 12676, 12667, 12659, 12650, 12642],
  [12633, 12624, 12616, 12607, 12599, 12590, 12582, 12573, 12565, 12556, 12548, 12539, 12531, 12522, 12514, 12505],
  [12497, 12488, 12480, 12472, 12463, 12455, 12446, 12438, 12429, 12421, 12413, 12404, 12396, 12387, 12379, 12371],
  [12362, 12354, 12346, 12337, 12329, 12321, 12312, 12304, 12296, 12287, 12279, 12271, 12262, 12254, 12246, 12237],
  [12229, 12221, 12213, 12204, 12196, 12188, 12180, 12171, 12163, 12155, 12147, 12138, 12130, 12122, 12114, 12106],
  [12097, 12089, 12081, 12073, 12065, 12057, 12048, 12040, 12032, 12024, 12016, 12008, 12000, 11991, 11983, 11975],
  [11967, 11959, 11951, 11943, 11935, 11927, 11919, 11911, 11902, 11894, 11886, 11878, 11870, 11862, 11854, 11846],
  [11838, 11830, 11822, 11814, 11806, 11798, 11790, 11782, 11774, 11766, 11758, 11750, 11742, 11734, 11727, 11719],
  [11711, 11703, 11695, 11687, 11679, 11671, 11663, 11655, 11647, 11640, 11632, 11624, 11616, 11608, 11600, 11592]]

/-- Entries 512 to 1023 of `EXPM`. -/
def defaultExpmPart1 : List (List Nat) := [
  [11585, 11577, 11569, 11561, 11553, 11545, 11538, 11530, 11522, 11514, 11506, 11499, 11491, 11483, 11475, 11468],
  [11460, 11452, 11444, 11436, 11429, 11421, 11413, 11406, 11398, 11390, 11382, 11375, 11367, 11359, 11352, 11344],
  [11336, 11329, 11321, 11313, 11306, 11298, 11290, 11283, 11275, 11267, 11260, 11252, 11245, 11237, 11229, 11222],
  [11214, 11207, 11199, 11191, 11184, 11176, 11169, 11161, 11154, 11146, 11139, 11131, 11123, 11116, 11108, 11101],
  [11093, 11086, 11078, 11071, 11063, 11056, 11048, 11041, 11033, 11026, 11019, 11011, 11004, 10996, 10989, 10981],
  [10974, 10966, 10959, 10952, 10944, 10937, 10929, 10922, 10915, 10907, 10900, 10892, 10885, 10878, 10870, 10863],
  [10856, 10848, 10841, 10834, 10826, 10819, 10812, 10804, 10797, 10790, 10782, 10775, 10768, 10761, 10753, 10746],
  [10739, 10731, 10724, 10717, 10710, 10702, 10695, 10688, 10681, 10674, 10666, 10659, 10652, 10645, 10637, 10630],
  [10623, 10616, 10609, 10602, 10594, 10587, 10580, 10573, 10566, 10559, 10551, 10544, 10537, 10530, 10523, 10516],
  [10509, 10502, 10494, 10487, 10480, 10473, 10466, 10459, 10452, 10445, 10438, 10431, 10424, 10417, 10410, 10402],
  [10395, 10388, 10381, 10374, 10367, 10360, 10353, 10346, 10339, 10332, 10325, 10318, 10311, 10304, 10297, 10290],
  [10283, 10276, 10270, 10263, 10256, 10249, 10242, 10235, 10228, 10221, 10214, 10207, 10200, 10193, 10186, 10180],
  [10173, 10166, 10159, 10152, 10145, 10138, 10131, 10125, 10118, 10111, 10104, 10097, 10090, 10084, 10077, 10070],
  [10063, 10056, 10049, 10043, 10036, 10029, 10022, 10016, 10009, 10002, 9995, 9988, 9982, 9975, 9968, 9961],
  [9955, 9948, 9941, 9935, 9928, 9921, 9914, 9908, 9901, 9894, 9888, 9881, 9874, 9867, 9861, 9854],
  [9847, 9841, 9834, 9827, 9821, 9814, 9808, 9801, 9794, 9788, 9781, 9774, 9768, 9761, 9755, 9748],
  [9741, 9735, 9728, 9722, 9715, 9708, 9702, 9695, 9689, 9682, 9676, 9669, 9663, 9656, 9650, 9643],
  [9636, 9630, 9623, 9617, 9610, 9604, 9597, 9591, 9584, 9578, 9571, 9565, 9558, 9552, 9546, 9539],
  [9533, 9526, 9520, 9513, 9507, 9500, 9494, 9488, 9481, 9475, 9468, 9462, 9456, 9449, 9443, 9436],
  [9430, 9424, 9417, 9411, 9404, 9398, 9392, 9385, 9379, 9373, 9366, 9360, 9354, 9347, 9341, 9335],
  [9328, 9322, 9316, 9309, 9303, 9297, 9291, 9284, 9278, 9272, 9265, 9259, 9253, 9247, 9240, 9234],
  [9228, 9222, 9215, 9209, 9203, 9197, 9190, 9184, 9178, 9172, 9166, 9159, 9153, 9147, 9141, 9135],
  [9128, 9122, 9116, 9110, 9104, 9098, 9091, 9085, 9079, 9073, 9067, 9061, 9055, 9049, 9042, 9036],
  [9030, 9024, 9018, 9012, 9006, 9000, 8994, 8987, 8981, 8975, 8969, 8963, 8957, 8951, 8945, 8939],
  [8933, 8927, 8921, 8915, 8909, 8903, 8897, 8891, 8885, 8879, 8873, 8867, 8861, 8855, 8849, 8843],
  [8837, 8831, 8825, 8819, 8813, 8807, 8801, 8795, 8789, 8783, 8777, 8771, 8765, 8759, 8753, 8747],
  [8741, 8736, 8730, 8724, 8718, 8712, 8706, 8700, 8694, 8688, 8683, 8677, 8671, 8665, 8659, 8653],
  [8647, 8641, 8636, 8630, 8624, 8618, 8612, 8606, 8601, 8595, 8589, 8583, 8577, 8572, 8566, 8560],
  [8554, 8548, 8543, 8537, 8531, 8525, 8519, 8514, 8508, 8502, 8496, 8491, 8485, 8479, 8473, 8468],
  [8462, 8456, 8451, 8445, 8439, 8433, 8428, 8422, 8416, 8411, 8405, 8399, 8394, 8388, 8382, 8377],
  [8371, 8365, 8360, 8354, 8348, 8343, 8337, 8331, 8326, 8320, 8314, 8309, 8303, 8298, 8292, 8286],
  [8281, 8275, 8269, 8264, 8258, 8253, 8247, 8242, 8236, 8230, 8225, 8219, 8214, 8208, 8203, 8197]]

/-- `EXPM[0..1023]`: the default exponential mantissa table (R148, D31). -/
def defaultExpm : Rom := romOf 14 (List.flatten
  [defaultExpmPart0, defaultExpmPart1])

/-- Entries 0 to 511 of `FREQM`. -/
def defaultFreqmPart0 : List (List Nat) := [
  [65536, 65547, 65558, 65569, 65580, 65591, 65602, 65613, 65624, 65635, 65646, 65658, 65669, 65680, 65691, 65702],
  [65713, 65724, 65735, 65747, 65758, 65769, 65780, 65791, 65802, 65813, 65824, 65836, 65847, 65858, 65869, 65880],
  [65891, 65903, 65914, 65925, 65936, 65947, 65958, 65969, 65981, 65992, 66003, 66014, 66025, 66036, 66048, 66059],
  [66070, 66081, 66092, 66104, 66115, 66126, 66137, 66148, 66160, 66171, 66182, 66193, 66204, 66216, 66227, 66238],
  [66249, 66260, 66272, 66283, 66294, 66305, 66316, 66328, 66339, 66350, 66361, 66373, 66384, 66395, 66406, 66418],
  [66429, 66440, 66451, 66462, 66474, 66485, 66496, 66507, 66519, 66530, 66541, 66553, 66564, 66575, 66586, 66598],
  [66609, 66620, 66631, 66643, 66654, 66665, 66677, 66688, 66699, 66710, 66722, 66733, 66744, 66756, 66767, 66778],
  [66789, 66801, 66812, 66823, 66835, 66846, 66857, 66869, 66880, 66891, 66903, 66914, 66925, 66937, 66948, 66959],
  [66971, 66982, 66993, 67005, 67016, 67027, 67039, 67050, 67061, 67073, 67084, 67095, 67107, 67118, 67129, 67141],
  [67152, 67163, 67175, 67186, 67198, 67209, 67220, 67232, 67243, 67254, 67266, 67277, 67289, 67300, 67311, 67323],
  [67334, 67346, 67357, 67368, 67380, 67391, 67403, 67414, 67425, 67437, 67448, 67460, 67471, 67482, 67494, 67505],
  [67517, 67528, 67540, 67551, 67562, 67574, 67585, 67597, 67608, 67620, 67631, 67643, 67654, 67665, 67677, 67688],
  [67700, 67711, 67723, 67734, 67746, 67757, 67769, 67780, 67792, 67803, 67814, 67826, 67837, 67849, 67860, 67872],
  [67883, 67895, 67906, 67918, 67929, 67941, 67952, 67964, 67975, 67987, 67998, 68010, 68021, 68033, 68044, 68056],
  [68067, 68079, 68090, 68102, 68114, 68125, 68137, 68148, 68160, 68171, 68183, 68194, 68206, 68217, 68229, 68240],
  [68252, 68264, 68275, 68287, 68298, 68310, 68321, 68333, 68344, 68356, 68368, 68379, 68391, 68402, 68414, 68425],
  [68437, 68449, 68460, 68472, 68483, 68495, 68507, 68518, 68530, 68541, 68553, 68565, 68576, 68588, 68599, 68611],
  [68623, 68634, 68646, 68657, 68669, 68681, 68692, 68704, 68716, 68727, 68739, 68750, 68762, 68774, 68785, 68797],
  [68809, 68820, 68832, 68844, 68855, 68867, 68879, 68890, 68902, 68914, 68925, 68937, 68949, 68960, 68972, 68984],
  [68995, 69007, 69019, 69030, 69042, 69054, 69065, 69077, 69089, 69100, 69112, 69124, 69135, 69147, 69159, 69171],
  [69182, 69194, 69206, 69217, 69229, 69241, 69253, 69264, 69276, 69288, 69299, 69311, 69323, 69335, 69346, 69358],
  [69370, 69382, 69393, 69405, 69417, 69429, 69440, 69452, 69464, 69476, 69487, 69499, 69511, 69523, 69534, 69546],
  [69558, 69570, 69581, 69593, 69605, 69617, 69629, 69640, 69652, 69664, 69676, 69688, 69699, 69711, 69723, 69735],
  [69747, 69758, 69770, 69782, 69794, 69806, 69817, 69829, 69841, 69853, 69865, 69876, 69888, 69900, 69912, 69924],
  [69936, 69947, 69959, 69971, 69983, 69995, 70007, 70019, 70030, 70042, 70054, 70066, 70078, 70090, 70101, 70113],
  [70125, 70137, 70149, 70161, 70173, 70185, 70196, 70208, 70220, 70232, 70244, 70256, 70268, 70280, 70292, 70303],
  [70315, 70327, 70339, 70351, 70363, 70375, 70387, 70399, 70411, 70423, 70434, 70446, 70458, 70470, 70482, 70494],
  [70506, 70518, 70530, 70542, 70554, 70566, 70578, 70590, 70602, 70613, 70625, 70637, 70649, 70661, 70673, 70685],
  [70697, 70709, 70721, 70733, 70745, 70757, 70769, 70781, 70793, 70805, 70817, 70829, 70841, 70853, 70865, 70877],
  [70889, 70901, 70913, 70925, 70937, 70949, 70961, 70973, 70985, 70997, 71009, 71021, 71033, 71045, 71057, 71069],
  [71081, 71093, 71105, 71117, 71129, 71141, 71153, 71165, 71177, 71189, 71201, 71213, 71226, 71238, 71250, 71262],
  [71274, 71286, 71298, 71310, 71322, 71334, 71346, 71358, 71370, 71382, 71394, 71407, 71419, 71431, 71443, 71455]]

/-- Entries 512 to 1023 of `FREQM`. -/
def defaultFreqmPart1 : List (List Nat) := [
  [71467, 71479, 71491, 71503, 71515, 71528, 71540, 71552, 71564, 71576, 71588, 71600, 71612, 71624, 71637, 71649],
  [71661, 71673, 71685, 71697, 71709, 71721, 71734, 71746, 71758, 71770, 71782, 71794, 71806, 71819, 71831, 71843],
  [71855, 71867, 71879, 71892, 71904, 71916, 71928, 71940, 71952, 71965, 71977, 71989, 72001, 72013, 72026, 72038],
  [72050, 72062, 72074, 72086, 72099, 72111, 72123, 72135, 72148, 72160, 72172, 72184, 72196, 72209, 72221, 72233],
  [72245, 72257, 72270, 72282, 72294, 72306, 72319, 72331, 72343, 72355, 72368, 72380, 72392, 72404, 72417, 72429],
  [72441, 72453, 72466, 72478, 72490, 72502, 72515, 72527, 72539, 72552, 72564, 72576, 72588, 72601, 72613, 72625],
  [72638, 72650, 72662, 72674, 72687, 72699, 72711, 72724, 72736, 72748, 72761, 72773, 72785, 72798, 72810, 72822],
  [72834, 72847, 72859, 72871, 72884, 72896, 72908, 72921, 72933, 72945, 72958, 72970, 72983, 72995, 73007, 73020],
  [73032, 73044, 73057, 73069, 73081, 73094, 73106, 73119, 73131, 73143, 73156, 73168, 73180, 73193, 73205, 73218],
  [73230, 73242, 73255, 73267, 73280, 73292, 73304, 73317, 73329, 73342, 73354, 73366, 73379, 73391, 73404, 73416],
  [73429, 73441, 73453, 73466, 73478, 73491, 73503, 73516, 73528, 73540, 73553, 73565, 73578, 73590, 73603, 73615],
  [73628, 73640, 73653, 73665, 73677, 73690, 73702, 73715, 73727, 73740, 73752, 73765, 73777, 73790, 73802, 73815],
  [73827, 73840, 73852, 73865, 73877, 73890, 73902, 73915, 73927, 73940, 73952, 73965, 73977, 73990, 74002, 74015],
  [74027, 74040, 74052, 74065, 74078, 74090, 74103, 74115, 74128, 74140, 74153, 74165, 74178, 74190, 74203, 74216],
  [74228, 74241, 74253, 74266, 74278, 74291, 74304, 74316, 74329, 74341, 74354, 74366, 74379, 74392, 74404, 74417],
  [74429, 74442, 74455, 74467, 74480, 74492, 74505, 74518, 74530, 74543, 74555, 74568, 74581, 74593, 74606, 74619],
  [74631, 74644, 74656, 74669, 74682, 74694, 74707, 74720, 74732, 74745, 74758, 74770, 74783, 74796, 74808, 74821],
  [74833, 74846, 74859, 74871, 74884, 74897, 74910, 74922, 74935, 74948, 74960, 74973, 74986, 74998, 75011, 75024],
  [75036, 75049, 75062, 75074, 75087, 75100, 75113, 75125, 75138, 75151, 75163, 75176, 75189, 75202, 75214, 75227],
  [75240, 75253, 75265, 75278, 75291, 75304, 75316, 75329, 75342, 75355, 75367, 75380, 75393, 75406, 75418, 75431],
  [75444, 75457, 75469, 75482, 75495, 75508, 75520, 75533, 75546, 75559, 75572, 75584, 75597, 75610, 75623, 75636],
  [75648, 75661, 75674, 75687, 75700, 75712, 75725, 75738, 75751, 75764, 75777, 75789, 75802, 75815, 75828, 75841],
  [75853, 75866, 75879, 75892, 75905, 75918, 75931, 75943, 75956, 75969, 75982, 75995, 76008, 76021, 76033, 76046],
  [76059, 76072, 76085, 76098, 76111, 76124, 76136, 76149, 76162, 76175, 76188, 76201, 76214, 76227, 76240, 76252],
  [76265, 76278, 76291, 76304, 76317, 76330, 76343, 76356, 76369, 76382, 76395, 76407, 76420, 76433, 76446, 76459],
  [76472, 76485, 76498, 76511, 76524, 76537, 76550, 76563, 76576, 76589, 76602, 76615, 76628, 76641, 76654, 76667],
  [76679, 76692, 76705, 76718, 76731, 76744, 76757, 76770, 76783, 76796, 76809, 76822, 76835, 76848, 76861, 76874],
  [76887, 76900, 76913, 76926, 76939, 76952, 76965, 76979, 76992, 77005, 77018, 77031, 77044, 77057, 77070, 77083],
  [77096, 77109, 77122, 77135, 77148, 77161, 77174, 77187, 77200, 77213, 77226, 77240, 77253, 77266, 77279, 77292],
  [77305, 77318, 77331, 77344, 77357, 77370, 77383, 77397, 77410, 77423, 77436, 77449, 77462, 77475, 77488, 77501],
  [77514, 77528, 77541, 77554, 77567, 77580, 77593, 77606, 77619, 77633, 77646, 77659, 77672, 77685, 77698, 77711],
  [77725, 77738, 77751, 77764, 77777, 77790, 77804, 77817, 77830, 77843, 77856, 77869, 77883, 77896, 77909, 77922]]

/-- Entries 1024 to 1535 of `FREQM`. -/
def defaultFreqmPart2 : List (List Nat) := [
  [77935, 77949, 77962, 77975, 77988, 78001, 78015, 78028, 78041, 78054, 78067, 78081, 78094, 78107, 78120, 78133],
  [78147, 78160, 78173, 78186, 78200, 78213, 78226, 78239, 78253, 78266, 78279, 78292, 78306, 78319, 78332, 78345],
  [78359, 78372, 78385, 78398, 78412, 78425, 78438, 78451, 78465, 78478, 78491, 78505, 78518, 78531, 78544, 78558],
  [78571, 78584, 78598, 78611, 78624, 78638, 78651, 78664, 78677, 78691, 78704, 78717, 78731, 78744, 78757, 78771],
  [78784, 78797, 78811, 78824, 78837, 78851, 78864, 78877, 78891, 78904, 78917, 78931, 78944, 78958, 78971, 78984],
  [78998, 79011, 79024, 79038, 79051, 79065, 79078, 79091, 79105, 79118, 79131, 79145, 79158, 79172, 79185, 79198],
  [79212, 79225, 79239, 79252, 79265, 79279, 79292, 79306, 79319, 79333, 79346, 79359, 79373, 79386, 79400, 79413],
  [79427, 79440, 79453, 79467, 79480, 79494, 79507, 79521, 79534, 79548, 79561, 79575, 79588, 79602, 79615, 79628],
  [79642, 79655, 79669, 79682, 79696, 79709, 79723, 79736, 79750, 79763, 79777, 79790, 79804, 79817, 79831, 79844],
  [79858, 79871, 79885, 79898, 79912, 79925, 79939, 79953, 79966, 79980, 79993, 80007, 80020, 80034, 80047, 80061],
  [80074, 80088, 80102, 80115, 80129, 80142, 80156, 80169, 80183, 80196, 80210, 80224, 80237, 80251, 80264, 80278],
  [80292, 80305, 80319, 80332, 80346, 80359, 80373, 80387, 80400, 80414, 80427, 80441, 80455, 80468, 80482, 80496],
  [80509, 80523, 80536, 80550, 80564, 80577, 80591, 80605, 80618, 80632, 80646, 80659, 80673, 80687, 80700, 80714],
  [80727, 80741, 80755, 80768, 80782, 80796, 80809, 80823, 80837, 80851, 80864, 80878, 80892, 80905, 80919, 80933],
  [80946, 80960, 80974, 80987, 81001, 81015, 81029, 81042, 81056, 81070, 81083, 81097, 81111, 81125, 81138, 81152],
  [81166, 81180, 81193, 81207, 81221, 81235, 81248, 81262, 81276, 81290, 81303, 81317, 81331, 81345, 81358, 81372],
  [81386, 81400, 81413, 81427, 81441, 81455, 81469, 81482, 81496, 81510, 81524, 81538, 81551, 81565, 81579, 81593],
  [81607, 81620, 81634, 81648, 81662, 81676, 81689, 81703, 81717, 81731, 81745, 81759, 81772, 81786, 81800, 81814],
  [81828, 81842, 81856, 81869, 81883, 81897, 81911, 81925, 81939, 81953, 81966, 81980, 81994, 82008, 82022, 82036],
  [82050, 82064, 82077, 82091, 82105, 82119, 82133, 82147, 82161, 82175, 82189, 82203, 82216, 82230, 82244, 82258],
  [82272, 82286, 82300, 82314, 82328, 82342, 82356, 82370, 82384, 82398, 82411, 82425, 82439, 82453, 82467, 82481],
  [82495, 82509, 82523, 82537, 82551, 82565, 82579, 82593, 82607, 82621, 82635, 82649, 82663, 82677, 82691, 82705],
  [82719, 82733, 82747, 82761, 82775, 82789, 82803, 82817, 82831, 82845, 82859, 82873, 82887, 82901, 82915, 82929],
  [82943, 82957, 82971, 82985, 82999, 83013, 83027, 83041, 83056, 83070, 83084, 83098, 83112, 83126, 83140, 83154],
  [83168, 83182, 83196, 83210, 83224, 83238, 83253, 83267, 83281, 83295, 83309, 83323, 83337, 83351, 83365, 83379],
  [83394, 83408, 83422, 83436, 83450, 83464, 83478, 83492, 83506, 83521, 83535, 83549, 83563, 83577, 83591, 83605],
  [83620, 83634, 83648, 83662, 83676, 83690, 83705, 83719, 83733, 83747, 83761, 83775, 83790, 83804, 83818, 83832],
  [83846, 83861, 83875, 83889, 83903, 83917, 83932, 83946, 83960, 83974, 83988, 84003, 84017, 84031, 84045, 84059],
  [84074, 84088, 84102, 84116, 84131, 84145, 84159, 84173, 84188, 84202, 84216, 84230, 84245, 84259, 84273, 84287],
  [84302, 84316, 84330, 84344, 84359, 84373, 84387, 84402, 84416, 84430, 84444, 84459, 84473, 84487, 84502, 84516],
  [84530, 84544, 84559, 84573, 84587, 84602, 84616, 84630, 84645, 84659, 84673, 84688, 84702, 84716, 84731, 84745],
  [84759, 84774, 84788, 84802, 84817, 84831, 84845, 84860, 84874, 84889, 84903, 84917, 84932, 84946, 84960, 84975]]

/-- Entries 1536 to 2047 of `FREQM`. -/
def defaultFreqmPart3 : List (List Nat) := [
  [84989, 85004, 85018, 85032, 85047, 85061, 85076, 85090, 85104, 85119, 85133, 85148, 85162, 85176, 85191, 85205],
  [85220, 85234, 85248, 85263, 85277, 85292, 85306, 85321, 85335, 85349, 85364, 85378, 85393, 85407, 85422, 85436],
  [85451, 85465, 85480, 85494, 85509, 85523, 85537, 85552, 85566, 85581, 85595, 85610, 85624, 85639, 85653, 85668],
  [85682, 85697, 85711, 85726, 85740, 85755, 85769, 85784, 85798, 85813, 85827, 85842, 85857, 85871, 85886, 85900],
  [85915, 85929, 85944, 85958, 85973, 85987, 86002, 86016, 86031, 86046, 86060, 86075, 86089, 86104, 86118, 86133],
  [86148, 86162, 86177, 86191, 86206, 86221, 86235, 86250, 86264, 86279, 86294, 86308, 86323, 86337, 86352, 86367],
  [86381, 86396, 86410, 86425, 86440, 86454, 86469, 86484, 86498, 86513, 86527, 86542, 86557, 86571, 86586, 86601],
  [86615, 86630, 86645, 86659, 86674, 86689, 86703, 86718, 86733, 86747, 86762, 86777, 86791, 86806, 86821, 86836],
  [86850, 86865, 86880, 86894, 86909, 86924, 86938, 86953, 86968, 86983, 86997, 87012, 87027, 87041, 87056, 87071],
  [87086, 87100, 87115, 87130, 87145, 87159, 87174, 87189, 87204, 87218, 87233, 87248, 87263, 87277, 87292, 87307],
  [87322, 87337, 87351, 87366, 87381, 87396, 87411, 87425, 87440, 87455, 87470, 87484, 87499, 87514, 87529, 87544],
  [87559, 87573, 87588, 87603, 87618, 87633, 87648, 87662, 87677, 87692, 87707, 87722, 87737, 87751, 87766, 87781],
  [87796, 87811, 87826, 87841, 87855, 87870, 87885, 87900, 87915, 87930, 87945, 87960, 87974, 87989, 88004, 88019],
  [88034, 88049, 88064, 88079, 88094, 88109, 88123, 88138, 88153, 88168, 88183, 88198, 88213, 88228, 88243, 88258],
  [88273, 88288, 88303, 88318, 88332, 88347, 88362, 88377, 88392, 88407, 88422, 88437, 88452, 88467, 88482, 88497],
  [88512, 88527, 88542, 88557, 88572, 88587, 88602, 88617, 88632, 88647, 88662, 88677, 88692, 88707, 88722, 88737],
  [88752, 88767, 88782, 88797, 88812, 88827, 88842, 88857, 88872, 88887, 88902, 88917, 88932, 88947, 88963, 88978],
  [88993, 89008, 89023, 89038, 89053, 89068, 89083, 89098, 89113, 89128, 89143, 89158, 89174, 89189, 89204, 89219],
  [89234, 89249, 89264, 89279, 89294, 89309, 89325, 89340, 89355, 89370, 89385, 89400, 89415, 89430, 89446, 89461],
  [89476, 89491, 89506, 89521, 89536, 89552, 89567, 89582, 89597, 89612, 89627, 89643, 89658, 89673, 89688, 89703],
  [89718, 89734, 89749, 89764, 89779, 89794, 89810, 89825, 89840, 89855, 89870, 89886, 89901, 89916, 89931, 89946],
  [89962, 89977, 89992, 90007, 90023, 90038, 90053, 90068, 90084, 90099, 90114, 90129, 90145, 90160, 90175, 90190],
  [90206, 90221, 90236, 90251, 90267, 90282, 90297, 90313, 90328, 90343, 90358, 90374, 90389, 90404, 90420, 90435],
  [90450, 90465, 90481, 90496, 90511, 90527, 90542, 90557, 90573, 90588, 90603, 90619, 90634, 90649, 90665, 90680],
  [90695, 90711, 90726, 90741, 90757, 90772, 90788, 90803, 90818, 90834, 90849, 90864, 90880, 90895, 90911, 90926],
  [90941, 90957, 90972, 90988, 91003, 91018, 91034, 91049, 91065, 91080, 91095, 91111, 91126, 91142, 91157, 91172],
  [91188, 91203, 91219, 91234, 91250, 91265, 91281, 91296, 91311, 91327, 91342, 91358, 91373, 91389, 91404, 91420],
  [91435, 91451, 91466, 91482, 91497, 91513, 91528, 91544, 91559, 91574, 91590, 91605, 91621, 91636, 91652, 91668],
  [91683, 91699, 91714, 91730, 91745, 91761, 91776, 91792, 91807, 91823, 91838, 91854, 91869, 91885, 91901, 91916],
  [91932, 91947, 91963, 91978, 91994, 92009, 92025, 92041, 92056, 92072, 92087, 92103, 92118, 92134, 92150, 92165],
  [92181, 92196, 92212, 92228, 92243, 92259, 92275, 92290, 92306, 92321, 92337, 92353, 92368, 92384, 92400, 92415],
  [92431, 92446, 92462, 92478, 92493, 92509, 92525, 92540, 92556, 92572, 92587, 92603, 92619, 92634, 92650, 92666]]

/-- Entries 2048 to 2559 of `FREQM`. -/
def defaultFreqmPart4 : List (List Nat) := [
  [92681, 92697, 92713, 92728, 92744, 92760, 92776, 92791, 92807, 92823, 92838, 92854, 92870, 92886, 92901, 92917],
  [92933, 92948, 92964, 92980, 92996, 93011, 93027, 93043, 93059, 93074, 93090, 93106, 93122, 93137, 93153, 93169],
  [93185, 93200, 93216, 93232, 93248, 93264, 93279, 93295, 93311, 93327, 93342, 93358, 93374, 93390, 93406, 93421],
  [93437, 93453, 93469, 93485, 93501, 93516, 93532, 93548, 93564, 93580, 93596, 93611, 93627, 93643, 93659, 93675],
  [93691, 93706, 93722, 93738, 93754, 93770, 93786, 93802, 93818, 93833, 93849, 93865, 93881, 93897, 93913, 93929],
  [93945, 93961, 93976, 93992, 94008, 94024, 94040, 94056, 94072, 94088, 94104, 94120, 94136, 94152, 94167, 94183],
  [94199, 94215, 94231, 94247, 94263, 94279, 94295, 94311, 94327, 94343, 94359, 94375, 94391, 94407, 94423, 94439],
  [94455, 94471, 94487, 94503, 94519, 94535, 94551, 94567, 94583, 94599, 94615, 94631, 94647, 94663, 94679, 94695],
  [94711, 94727, 94743, 94759, 94775, 94791, 94807, 94823, 94839, 94855, 94871, 94887, 94903, 94919, 94936, 94952],
  [94968, 94984, 95000, 95016, 95032, 95048, 95064, 95080, 95096, 95112, 95129, 95145, 95161, 95177, 95193, 95209],
  [95225, 95241, 95257, 95273, 95290, 95306, 95322, 95338, 95354, 95370, 95386, 95403, 95419, 95435, 95451, 95467],
  [95483, 95499, 95516, 95532, 95548, 95564, 95580, 95597, 95613, 95629, 95645, 95661, 95677, 95694, 95710, 95726],
  [95742, 95758, 95775, 95791, 95807, 95823, 95839, 95856, 95872, 95888, 95904, 95921, 95937, 95953, 95969, 95986],
  [96002, 96018, 96034, 96051, 96067, 96083, 96099, 96116, 96132, 96148, 96164, 96181, 96197, 96213, 96230, 96246],
  [96262, 96278, 96295, 96311, 96327, 96344, 96360, 96376, 96392, 96409, 96425, 96441, 96458, 96474, 96490, 96507],
  [96523, 96539, 96556, 96572, 96588, 96605, 96621, 96637, 96654, 96670, 96687, 96703, 96719, 96736, 96752, 96768],
  [96785, 96801, 96818, 96834, 96850, 96867, 96883, 96899, 96916, 96932, 96949, 96965, 96982, 96998, 97014, 97031],
  [97047, 97064, 97080, 97096, 97113, 97129, 97146, 97162, 97179, 97195, 97212, 97228, 97244, 97261, 97277, 97294],
  [97310, 97327, 97343, 97360, 97376, 97393, 97409, 97426, 97442, 97459, 97475, 97492, 97508, 97525, 97541, 97558],
  [97574, 97591, 97607, 97624, 97640, 97657, 97673, 97690, 97706, 97723, 97739, 97756, 97772, 97789, 97806, 97822],
  [97839, 97855, 97872, 97888, 97905, 97922, 97938, 97955, 97971, 97988, 98004, 98021, 98038, 98054, 98071, 98087],
  [98104, 98121, 98137, 98154, 98170, 98187, 98204, 98220, 98237, 98253, 98270, 98287, 98303, 98320, 98337, 98353],
  [98370, 98387, 98403, 98420, 98437, 98453, 98470, 98487, 98503, 98520, 98537, 98553, 98570, 98587, 98603, 98620],
  [98637, 98653, 98670, 98687, 98703, 98720, 98737, 98754, 98770, 98787, 98804, 98820, 98837, 98854, 98871, 98887],
  [98904, 98921, 98938, 98954, 98971, 98988, 99005, 99021, 99038, 99055, 99072, 99088, 99105, 99122, 99139, 99155],
  [99172, 99189, 99206, 99223, 99239, 99256, 99273, 99290, 99307, 99323, 99340, 99357, 99374, 99391, 99407, 99424],
  [99441, 99458, 99475, 99492, 99508, 99525, 99542, 99559, 99576, 99593, 99610, 99626, 99643, 99660, 99677, 99694],
  [99711, 99728, 99745, 99761, 99778, 99795, 99812, 99829, 99846, 99863, 99880, 99897, 99913, 99930, 99947, 99964],
  [99981, 99998, 100015, 100032, 100049, 100066, 100083, 100100, 100117, 100133, 100150, 100167, 100184, 100201, 100218, 100235],
  [100252, 100269, 100286, 100303, 100320, 100337, 100354, 100371, 100388, 100405, 100422, 100439, 100456, 100473, 100490, 100507],
  [100524, 100541, 100558, 100575, 100592, 100609, 100626, 100643, 100660, 100677, 100694, 100711, 100728, 100745, 100762, 100779],
  [100797, 100814, 100831, 100848, 100865, 100882, 100899, 100916, 100933, 100950, 100967, 100984, 101001, 101019, 101036, 101053]]

/-- Entries 2560 to 3071 of `FREQM`. -/
def defaultFreqmPart5 : List (List Nat) := [
  [101070, 101087, 101104, 101121, 101138, 101155, 101173, 101190, 101207, 101224, 101241, 101258, 101275, 101292, 101310, 101327],
  [101344, 101361, 101378, 101395, 101412, 101430, 101447, 101464, 101481, 101498, 101516, 101533, 101550, 101567, 101584, 101601],
  [101619, 101636, 101653, 101670, 101687, 101705, 101722, 101739, 101756, 101774, 101791, 101808, 101825, 101842, 101860, 101877],
  [101894, 101911, 101929, 101946, 101963, 101980, 101998, 102015, 102032, 102049, 102067, 102084, 102101, 102119, 102136, 102153],
  [102170, 102188, 102205, 102222, 102240, 102257, 102274, 102292, 102309, 102326, 102343, 102361, 102378, 102395, 102413, 102430],
  [102447, 102465, 102482, 102499, 102517, 102534, 102551, 102569, 102586, 102604, 102621, 102638, 102656, 102673, 102690, 102708],
  [102725, 102743, 102760, 102777, 102795, 102812, 102830, 102847, 102864, 102882, 102899, 102917, 102934, 102951, 102969, 102986],
  [103004, 103021, 103039, 103056, 103073, 103091, 103108, 103126, 103143, 103161, 103178, 103196, 103213, 103231, 103248, 103266],
  [103283, 103300, 103318, 103335, 103353, 103370, 103388, 103405, 103423, 103440, 103458, 103475, 103493, 103510, 103528, 103545],
  [103563, 103581, 103598, 103616, 103633, 103651, 103668, 103686, 103703, 103721, 103738, 103756, 103774, 103791, 103809, 103826],
  [103844, 103861, 103879, 103897, 103914, 103932, 103949, 103967, 103984, 104002, 104020, 104037, 104055, 104073, 104090, 104108],
  [104125, 104143, 104161, 104178, 104196, 104213, 104231, 104249, 104266, 104284, 104302, 104319, 104337, 104355, 104372, 104390],
  [104408, 104425, 104443, 104461, 104478, 104496, 104514, 104531, 104549, 104567, 104584, 104602, 104620, 104638, 104655, 104673],
  [104691, 104708, 104726, 104744, 104762, 104779, 104797, 104815, 104833, 104850, 104868, 104886, 104904, 104921, 104939, 104957],
  [104975, 104992, 105010, 105028, 105046, 105063, 105081, 105099, 105117, 105135, 105152, 105170, 105188, 105206, 105224, 105241],
  [105259, 105277, 105295, 105313, 105330, 105348, 105366, 105384, 105402, 105420, 105437, 105455, 105473, 105491, 105509, 105527],
  [105545, 105562, 105580, 105598, 105616, 105634, 105652, 105670, 105688, 105705, 105723, 105741, 105759, 105777, 105795, 105813],
  [105831, 105849, 105867, 105884, 105902, 105920, 105938, 105956, 105974, 105992, 106010, 106028, 106046, 106064, 106082, 106100],
  [106118, 106136, 106154, 106172, 106190, 106208, 106225, 106243, 106261, 106279, 106297, 106315, 106333, 106351, 106369, 106387],
  [106405, 106423, 106441, 106459, 106477, 106495, 106514, 106532, 106550, 106568, 106586, 106604, 106622, 106640, 106658, 106676],
  [106694, 106712, 106730, 106748, 106766, 106784, 106802, 106820, 106838, 106857, 106875, 106893, 106911, 106929, 106947, 106965],
  [106983, 107001, 107019, 107038, 107056, 107074, 107092, 107110, 107128, 107146, 107164, 107183, 107201, 107219, 107237, 107255],
  [107273, 107291, 107310, 107328, 107346, 107364, 107382, 107400, 107419, 107437, 107455, 107473, 107491, 107509, 107528, 107546],
  [107564, 107582, 107601, 107619, 107637, 107655, 107673, 107692, 107710, 107728, 107746, 107765, 107783, 107801, 107819, 107837],
  [107856, 107874, 107892, 107911, 107929, 107947, 107965, 107984, 108002, 108020, 108038, 108057, 108075, 108093, 108112, 108130],
  [108148, 108166, 108185, 108203, 108221, 108240, 108258, 108276, 108295, 108313, 108331, 108350, 108368, 108386, 108405, 108423],
  [108441, 108460, 108478, 108496, 108515, 108533, 108552, 108570, 108588, 108607, 108625, 108643, 108662, 108680, 108699, 108717],
  [108735, 108754, 108772, 108791, 108809, 108827, 108846, 108864, 108883, 108901, 108920, 108938, 108956, 108975, 108993, 109012],
  [109030, 109049, 109067, 109086, 109104, 109123, 109141, 109159, 109178, 109196, 109215, 109233, 109252, 109270, 109289, 109307],
  [109326, 109344, 109363, 109381, 109400, 109418, 109437, 109455, 109474, 109492, 109511, 109530, 109548, 109567, 109585, 109604],
  [109622, 109641, 109659, 109678, 109696, 109715, 109734, 109752, 109771, 109789, 109808, 109826, 109845, 109864, 109882, 109901],
  [109919, 109938, 109957, 109975, 109994, 110012, 110031, 110050, 110068, 110087, 110106, 110124, 110143, 110162, 110180, 110199]]

/-- Entries 3072 to 3583 of `FREQM`. -/
def defaultFreqmPart6 : List (List Nat) := [
  [110217, 110236, 110255, 110273, 110292, 110311, 110329, 110348, 110367, 110385, 110404, 110423, 110442, 110460, 110479, 110498],
  [110516, 110535, 110554, 110572, 110591, 110610, 110629, 110647, 110666, 110685, 110703, 110722, 110741, 110760, 110778, 110797],
  [110816, 110835, 110853, 110872, 110891, 110910, 110929, 110947, 110966, 110985, 111004, 111022, 111041, 111060, 111079, 111098],
  [111116, 111135, 111154, 111173, 111192, 111210, 111229, 111248, 111267, 111286, 111305, 111323, 111342, 111361, 111380, 111399],
  [111418, 111437, 111455, 111474, 111493, 111512, 111531, 111550, 111569, 111587, 111606, 111625, 111644, 111663, 111682, 111701],
  [111720, 111739, 111758, 111776, 111795, 111814, 111833, 111852, 111871, 111890, 111909, 111928, 111947, 111966, 111985, 112004],
  [112023, 112042, 112061, 112080, 112099, 112117, 112136, 112155, 112174, 112193, 112212, 112231, 112250, 112269, 112288, 112307],
  [112326, 112345, 112364, 112383, 112402, 112421, 112440, 112460, 112479, 112498, 112517, 112536, 112555, 112574, 112593, 112612],
  [112631, 112650, 112669, 112688, 112707, 112726, 112745, 112764, 112784, 112803, 112822, 112841, 112860, 112879, 112898, 112917],
  [112936, 112955, 112975, 112994, 113013, 113032, 113051, 113070, 113089, 113108, 113128, 113147, 113166, 113185, 113204, 113223],
  [113243, 113262, 113281, 113300, 113319, 113338, 113358, 113377, 113396, 113415, 113434, 113454, 113473, 113492, 113511, 113530],
  [113550, 113569, 113588, 113607, 113626, 113646, 113665, 113684, 113703, 113723, 113742, 113761, 113780, 113800, 113819, 113838],
  [113857, 113877, 113896, 113915, 113935, 113954, 113973, 113992, 114012, 114031, 114050, 114070, 114089, 114108, 114127, 114147],
  [114166, 114185, 114205, 114224, 114243, 114263, 114282, 114301, 114321, 114340, 114359, 114379, 114398, 114418, 114437, 114456],
  [114476, 114495, 114514, 114534, 114553, 114573, 114592, 114611, 114631, 114650, 114670, 114689, 114708, 114728, 114747, 114767],
  [114786, 114805, 114825, 114844, 114864, 114883, 114903, 114922, 114942, 114961, 114980, 115000, 115019, 115039, 115058, 115078],
  [115097, 115117, 115136, 115156, 115175, 115195, 115214, 115234, 115253, 115273, 115292, 115312, 115331, 115351, 115370, 115390],
  [115409, 115429, 115448, 115468, 115487, 115507, 115527, 115546, 115566, 115585, 115605, 115624, 115644, 115663, 115683, 115703],
  [115722, 115742, 115761, 115781, 115801, 115820, 115840, 115859, 115879, 115899, 115918, 115938, 115957, 115977, 115997, 116016],
  [116036, 116056, 116075, 116095, 116115, 116134, 116154, 116174, 116193, 116213, 116232, 116252, 116272, 116292, 116311, 116331],
  [116351, 116370, 116390, 116410, 116429, 116449, 116469, 116488, 116508, 116528, 116548, 116567, 116587, 116607, 116627, 116646],
  [116666, 116686, 116706, 116725, 116745, 116765, 116785, 116804, 116824, 116844, 116864, 116883, 116903, 116923, 116943, 116963],
  [116982, 117002, 117022, 117042, 117062, 117081, 117101, 117121, 117141, 117161, 117180, 117200, 117220, 117240, 117260, 117280],
  [117300, 117319, 117339, 117359, 117379, 117399, 117419, 117439, 117458, 117478, 117498, 117518, 117538, 117558, 117578, 117598],
  [117618, 117637, 117657, 117677, 117697, 117717, 117737, 117757, 117777, 117797, 117817, 117837, 117857, 117877, 117897, 117916],
  [117936, 117956, 117976, 117996, 118016, 118036, 118056, 118076, 118096, 118116, 118136, 118156, 118176, 118196, 118216, 118236],
  [118256, 118276, 118296, 118316, 118336, 118356, 118376, 118396, 118416, 118436, 118456, 118477, 118497, 118517, 118537, 118557],
  [118577, 118597, 118617, 118637, 118657, 118677, 118697, 118717, 118737, 118758, 118778, 118798, 118818, 118838, 118858, 118878],
  [118898, 118918, 118939, 118959, 118979, 118999, 119019, 119039, 119059, 119080, 119100, 119120, 119140, 119160, 119180, 119201],
  [119221, 119241, 119261, 119281, 119301, 119322, 119342, 119362, 119382, 119402, 119423, 119443, 119463, 119483, 119503, 119524],
  [119544, 119564, 119584, 119605, 119625, 119645, 119665, 119686, 119706, 119726, 119746, 119767, 119787, 119807, 119827, 119848],
  [119868, 119888, 119909, 119929, 119949, 119970, 119990, 120010, 120030, 120051, 120071, 120091, 120112, 120132, 120152, 120173]]

/-- Entries 3584 to 4095 of `FREQM`. -/
def defaultFreqmPart7 : List (List Nat) := [
  [120193, 120213, 120234, 120254, 120274, 120295, 120315, 120336, 120356, 120376, 120397, 120417, 120437, 120458, 120478, 120499],
  [120519, 120539, 120560, 120580, 120601, 120621, 120641, 120662, 120682, 120703, 120723, 120743, 120764, 120784, 120805, 120825],
  [120846, 120866, 120887, 120907, 120928, 120948, 120968, 120989, 121009, 121030, 121050, 121071, 121091, 121112, 121132, 121153],
  [121173, 121194, 121214, 121235, 121255, 121276, 121296, 121317, 121337, 121358, 121379, 121399, 121420, 121440, 121461, 121481],
  [121502, 121522, 121543, 121564, 121584, 121605, 121625, 121646, 121666, 121687, 121708, 121728, 121749, 121769, 121790, 121811],
  [121831, 121852, 121873, 121893, 121914, 121934, 121955, 121976, 121996, 122017, 122038, 122058, 122079, 122100, 122120, 122141],
  [122162, 122182, 122203, 122224, 122244, 122265, 122286, 122306, 122327, 122348, 122369, 122389, 122410, 122431, 122451, 122472],
  [122493, 122514, 122534, 122555, 122576, 122597, 122617, 122638, 122659, 122680, 122700, 122721, 122742, 122763, 122783, 122804],
  [122825, 122846, 122867, 122887, 122908, 122929, 122950, 122971, 122991, 123012, 123033, 123054, 123075, 123095, 123116, 123137],
  [123158, 123179, 123200, 123221, 123241, 123262, 123283, 123304, 123325, 123346, 123367, 123387, 123408, 123429, 123450, 123471],
  [123492, 123513, 123534, 123555, 123576, 123596, 123617, 123638, 123659, 123680, 123701, 123722, 123743, 123764, 123785, 123806],
  [123827, 123848, 123869, 123890, 123911, 123932, 123952, 123973, 123994, 124015, 124036, 124057, 124078, 124099, 124120, 124141],
  [124162, 124183, 124204, 124225, 124247, 124268, 124289, 124310, 124331, 124352, 124373, 124394, 124415, 124436, 124457, 124478],
  [124499, 124520, 124541, 124562, 124583, 124604, 124626, 124647, 124668, 124689, 124710, 124731, 124752, 124773, 124794, 124816],
  [124837, 124858, 124879, 124900, 124921, 124942, 124963, 124985, 125006, 125027, 125048, 125069, 125090, 125112, 125133, 125154],
  [125175, 125196, 125217, 125239, 125260, 125281, 125302, 125323, 125345, 125366, 125387, 125408, 125430, 125451, 125472, 125493],
  [125514, 125536, 125557, 125578, 125599, 125621, 125642, 125663, 125685, 125706, 125727, 125748, 125770, 125791, 125812, 125833],
  [125855, 125876, 125897, 125919, 125940, 125961, 125983, 126004, 126025, 126047, 126068, 126089, 126111, 126132, 126153, 126175],
  [126196, 126217, 126239, 126260, 126281, 126303, 126324, 126346, 126367, 126388, 126410, 126431, 126453, 126474, 126495, 126517],
  [126538, 126560, 126581, 126602, 126624, 126645, 126667, 126688, 126710, 126731, 126752, 126774, 126795, 126817, 126838, 126860],
  [126881, 126903, 126924, 126946, 126967, 126989, 127010, 127032, 127053, 127075, 127096, 127118, 127139, 127161, 127182, 127204],
  [127225, 127247, 127268, 127290, 127311, 127333, 127355, 127376, 127398, 127419, 127441, 127462, 127484, 127505, 127527, 127549],
  [127570, 127592, 127613, 127635, 127657, 127678, 127700, 127721, 127743, 127765, 127786, 127808, 127830, 127851, 127873, 127894],
  [127916, 127938, 127959, 127981, 128003, 128024, 128046, 128068, 128089, 128111, 128133, 128154, 128176, 128198, 128219, 128241],
  [128263, 128285, 128306, 128328, 128350, 128371, 128393, 128415, 128437, 128458, 128480, 128502, 128524, 128545, 128567, 128589],
  [128611, 128632, 128654, 128676, 128698, 128720, 128741, 128763, 128785, 128807, 128828, 128850, 128872, 128894, 128916, 128938],
  [128959, 128981, 129003, 129025, 129047, 129069, 129090, 129112, 129134, 129156, 129178, 129200, 129222, 129243, 129265, 129287],
  [129309, 129331, 129353, 129375, 129397, 129418, 129440, 129462, 129484, 129506, 129528, 129550, 129572, 129594, 129616, 129638],
  [129660, 129682, 129703, 129725, 129747, 129769, 129791, 129813, 129835, 129857, 129879, 129901, 129923, 129945, 129967, 129989],
  [130011, 130033, 130055, 130077, 130099, 130121, 130143, 130165, 130187, 130209, 130231, 130253, 130275, 130297, 130320, 130342],
  [130364, 130386, 130408, 130430, 130452, 130474, 130496, 130518, 130540, 130562, 130584, 130607, 130629, 130651, 130673, 130695],
  [130717, 130739, 130761, 130783, 130806, 130828, 130850, 130872, 130894, 130916, 130938, 130961, 130983, 131005, 131027, 131049]]

/-- `FREQM[0..4095]`: the default pitch-fraction table (R209, D32). -/
def defaultFreqm : Rom := romOf 17 (List.flatten
  [defaultFreqmPart0, defaultFreqmPart1, defaultFreqmPart2, defaultFreqmPart3, defaultFreqmPart4, defaultFreqmPart5, defaultFreqmPart6, defaultFreqmPart7])

/-- `LFO_SINE[0..63]`: the default quarter-wave LFO sine (R176, D33). -/
def defaultLfoSine : Rom := romOf 7 [
  [2, 5, 8, 11, 14, 17, 20, 23, 26, 29, 32, 35, 38, 41, 44, 47],
  [50, 53, 56, 58, 61, 64, 67, 69, 72, 74, 77, 79, 82, 84, 86, 89],
  [91, 93, 95, 97, 99, 101, 103, 105, 106, 108, 110, 111, 113, 114, 115, 117],
  [118, 119, 120, 121, 122, 123, 124, 124, 125, 125, 126, 126, 127, 127, 127, 127]]

/-- `EG_INC[0..63]`, that is `(4 + (r & 3)) << (r >> 2)`: the default rate table (R125, D34). -/
def defaultEgInc : Rom := romOf 18 [
  [4, 5, 6, 7, 8, 10, 12, 14, 16, 20, 24, 28, 32, 40, 48, 56],
  [64, 80, 96, 112, 128, 160, 192, 224, 256, 320, 384, 448, 512, 640, 768, 896],
  [1024, 1280, 1536, 1792, 2048, 2560, 3072, 3584, 4096, 5120, 6144, 7168, 8192, 10240, 12288, 14336],
  [16384, 20480, 24576, 28672, 32768, 40960, 49152, 57344, 65536, 81920, 98304, 114688, 131072, 163840, 196608, 229376]]

/-- `PMS_GAIN[0..7]` (R204, D35). -/
def defaultPmsGain : Rom := romOf 8 [
  [0, 10, 20, 33, 55, 92, 153, 255]]

/-- `AMS_GAIN[0..3]` (R205, D35). -/
def defaultAmsGain : Rom := romOf 8 [
  [0, 66, 109, 255]]

/-- `COMP_ATT[0..7]` (R156, D36). -/
def defaultCompAtt : Rom := romOf 12 [
  [0, 1024, 1623, 2048, 2378, 2647, 2875, 3072]]

/-- The `SEL` code 0 to 7 as a name (R141). -/
def selOfCode : Nat → Sel
  | 0 => .zero | 1 => .own | 2 => .sum | 3 => .mem
  | 4 => .fb1 | 5 => .fbPair | 6 => .reserved6 | _ => .reserved7

/-- A ROM entry from R157's six digits `SEL FBEN MR MW CAR COM`, written as one decimal number. -/
def entryOfDigits (n : Nat) : AlgEntry :=
  { sel := selOfCode (n / 100000 % 10)
    fben := n / 10000 % 10 == 1
    mr := n / 1000 % 10 == 1
    mw := n / 100 % 10 == 1
    car := n / 10 % 10 == 1
    com := Fin.ofNat 8 (n % 10) }

/-- A row of R157: its columns are operators 6, 5, 4, 3, 2, 1. -/
def romRow (e6 e5 e4 e3 e2 e1 : Nat) : PerOp AlgEntry :=
  ⟨entryOfDigits e1, entryOfDigits e2, entryOfDigits e3,
   entryOfDigits e4, entryOfDigits e5, entryOfDigits e6⟩

/-- `ALG_ROM`: the default routing tables, row by row as R157 prints them
(PRESUMED, unsafe: notes/assumptions/5.md). -/
def defaultAlgRom : List (PerOp AlgEntry) := [
  romRow 110000 100000 100000 000011 100000 500011,
  romRow 100000 100000 100000 500011 110000 000011,
  romRow 110000 100000 000011 100000 100000 500011,
  romRow 100000 100000 010011 100000 100000 500011,
  romRow 110000 000012 100000 000012 100000 500012,
  romRow 100000 010012 100000 000012 100000 500012,
  romRow 110000 000100 301100 000011 100000 500011,
  romRow 100000 500100 311100 000011 100000 000011,
  romRow 100000 000100 301100 500011 110000 000011,
  romRow 000100 301100 500011 110000 100000 000011,
  romRow 010100 301100 000011 100000 100000 500011,
  romRow 000100 001100 301100 500011 110000 000011,
  romRow 010100 001100 301100 000011 100000 500011,
  romRow 010100 301100 100000 000011 100000 500011,
  romRow 000100 301100 100000 500011 110000 000011,
  romRow 110000 000100 100000 001100 301100 500010,
  romRow 100000 000100 100000 501100 311100 000010,
  romRow 100000 100000 500100 011100 301100 000010,
  romRow 110100 300012 000012 100000 100000 500012,
  romRow 000100 301100 500012 110100 300012 000012,
  romRow 100100 300013 500013 110100 300013 000013,
  romRow 110100 300013 300013 000013 100000 500013,
  romRow 110100 300013 000013 100000 000013 500013,
  romRow 110100 300014 300014 000014 000014 500014,
  romRow 110100 300014 000014 000014 000014 500014,
  romRow 010100 301100 000012 100000 000012 500012,
  romRow 000100 301100 500012 110000 000012 000012,
  romRow 500012 110000 100000 000012 100000 000012,
  romRow 110000 000013 100000 000013 000013 500013,
  romRow 500013 110000 100000 000013 000013 000013,
  romRow 110000 000014 000014 000014 000014 500014,
  romRow 010015 000015 000015 000015 000015 500015]

/-- The default configuration of R6. `NVOICE` has no default in the spec; 2 is the value its test
vectors use that reproduces all of them (DESIGN CHOICE, unsafe: notes/assumptions/3.md). -/
def defaultCfg : Cfg :=
  { nvoice := 2
    phaseW := 24
    phiW := 12
    logW := 14
    accW := 18
    egW := 24
    attW := 12
    egCodeW := 6
    modShift := 1
    fbBase := 11
    pitchOct := 4096
    detuneStep := 2
    pbShift := 3
    pmodShift := 3
    mixK := 83
    mixShift := 12
    lcgA := 179
    lcgC := 11
    lcgSeed := 0
    atNum := 128
    lsq := defaultLsq
    expm := defaultExpm
    freqm := defaultFreqm
    lfoSine := defaultLfoSine
    egInc := defaultEgInc
    pmsGain := defaultPmsGain
    amsGain := defaultAmsGain
    compAtt := defaultCompAtt
    algRom := defaultAlgRom }

end Sys2Proof.Machine
end

