-- ==== Sys2Proof/Machine/State.lean ====
section
/-! DEFINITION. The state of one engine instance (10_state.md), its reset (R44), and the reasons a
step can stop, of which the spec gives none (R240 of 60_exceptions.md). -/

namespace Sys2Proof.Machine

/-- Envelope stages, coded 0 to 5 (R31, R120); codes 6 and 7 never occur. -/
inductive EgStage where
  | attack | decay1 | decay2 | sustain | release | ended
  deriving DecidableEq, Repr

/-- The stage code of R31. -/
def EgStage.code : EgStage → Nat
  | .attack => 0 | .decay1 => 1 | .decay2 => 2 | .sustain => 3 | .release => 4 | .ended => 5

/-- LFO stages, coded 0 to 2 (R31, R170); code 3 never occurs. -/
inductive LfoStage where
  | delay | fade | steady
  deriving DecidableEq, Repr

/-- The stage code of R31. -/
def LfoStage.code : LfoStage → Nat
  | .delay => 0 | .fade => 1 | .steady => 2

/-- The operator record `OP[o]`: 14 parameter registers (R21) and its runtime state (R35, R36).
Registers whose width is an OPEN parameter hold their value; `Voice.wf` of Safety.lean says it
fits (notes/assumptions/6.md). -/
structure OpRec where
  /-- `PITCH`: signed offset in ratio mode, absolute in fixed mode. -/
  pitch : BitVec 16
  /-- `MODE`: 1 is fixed mode. -/
  mode : BitVec 1
  /-- `DETUNE`: signed. -/
  detune : BitVec 4
  /-- `OLATT`: output-level attenuation in att8 units. -/
  olatt : BitVec 8
  /-- `AMS`: amplitude modulation sensitivity. -/
  ams : BitVec 2
  /-- `RS`: rate scaling, stored and readable, without effect (R133). -/
  rs : BitVec 3
  /-- `EG_RATE[0..3]`, `EG_CODE_W` bits each. -/
  egRate : PerSeg Nat
  /-- `EG_LEVEL[0..3]`, `EG_CODE_W` bits each. -/
  egLevel : PerSeg Nat
  /-- `PHASE`, `PHASE_W` bits (R35). -/
  phase : Nat
  /-- `EG_CUR`, `EG_W` bits: 0 is loudest (R36). -/
  egCur : Nat
  /-- `EG_STAGE` (R31). -/
  egStage : EgStage
  deriving DecidableEq, Repr

/-- The voice record `VOICE[v]` (R20, R32, R37, R38, R39). -/
structure Voice where
  /-- `OP[1..6]`. -/
  ops : PerOp OpRec
  /-- `ALG`: algorithm index. -/
  alg : BitVec 5
  /-- `FBL`: feedback level. -/
  fbl : BitVec 3
  /-- `VPITCH`: voice pitch, unsigned. -/
  vpitch : BitVec 16
  /-- `PBEND`: pitch bend, centre 0x2000. -/
  pbend : BitVec 14
  /-- `PMS`: pitch modulation sensitivity. -/
  pms : BitVec 3
  /-- `PEG_RATE[0..3]`. -/
  pegRate : PerSeg (BitVec 16)
  /-- `PEG_LEVEL[0..3]`, centre 0x80. -/
  pegLevel : PerSeg (BitVec 8)
  /-- `LFO_INC`. -/
  lfoInc : BitVec 16
  /-- `LFO_DELAY_INC`. -/
  lfoDelayInc : BitVec 16
  /-- `LFO_FADE_INC`. -/
  lfoFadeInc : BitVec 16
  /-- `LFO_PMD`. -/
  lfoPmd : BitVec 8
  /-- `LFO_AMD`. -/
  lfoAmd : BitVec 8
  /-- `LFO_WAVE`. -/
  lfoWave : BitVec 3
  /-- `LFO_SYNC`. -/
  lfoSync : BitVec 1
  /-- `MIX_RANGE[0..3]`. -/
  mixRange : PerCtrl (BitVec 7)
  /-- `MIX_ASSIGN[0..3]`: bit 0 pitch, bit 1 amplitude, bit 2 EG bias. -/
  mixAssign : PerCtrl (BitVec 3)
  /-- `MIX_RAW[0..3]`. -/
  mixRaw : PerCtrl (BitVec 7)
  /-- `PEG_CUR`, centre 0x4000 (R37). -/
  pegCur : BitVec 15
  /-- `PEG_STAGE` (R31). -/
  pegStage : EgStage
  /-- `PEG_TOGGLE` (R31). -/
  pegToggle : Bool
  /-- `LFO_PHASE` (R38). -/
  lfoPhase : BitVec 16
  /-- `LFO_DELAYACC` (R38). -/
  lfoDelayAcc : BitVec 16
  /-- `LFO_FADEACC` (R38). -/
  lfoFadeAcc : BitVec 16
  /-- `LFO_STAGE` (R31). -/
  lfoStage : LfoStage
  /-- `LFO_RAND`: the sample-and-hold generator (R38). -/
  lfoRand : BitVec 8
  /-- `LFO_POUT`, signed (R38). -/
  lfoPout : BitVec 8
  /-- `LFO_AOUT`, unsigned (R38). -/
  lfoAout : BitVec 8
  /-- `MOD`, `ACC_W` bits signed: modulation for the next operator evaluated (R39). -/
  mod : Int
  /-- `MEM`, `ACC_W` bits signed: memory register (R39). -/
  mem : Int
  /-- `SUM`, `ACC_W` bits signed: running carrier sum (R39). -/
  sum : Int
  /-- `FB1`, 15 bits signed: feedback register 1 (R39). -/
  fb1 : Int
  /-- `FB2`, 15 bits signed: feedback register 2 (R39). -/
  fb2 : Int
  /-- `OUT`, `ACC_W` bits signed: the audible sample (R39). -/
  out : Int
  /-- `SEQ`, 3 bits: the operator being evaluated, 0 between commands (R30). -/
  seq : Nat
  deriving DecidableEq, Repr

/-- The state of one engine instance. The spec's state is `voices` and `dout` (R20). `cfg` is the
constant argument of the spec's `step : Cfg -> State -> Word -> State` (R114) and no step changes
it (notes/assumptions/2.md); `port` holds the command words the host presents, the next one first
(R65, R80; notes/assumptions/1.md). -/
structure State where
  /-- The configuration, fixed before reset. -/
  cfg : Cfg
  /-- The command words still to be executed, in the host's order. -/
  port : List Word
  /-- `VOICE[0..NVOICE-1]`. -/
  voices : List Voice
  /-- `DOUT`. -/
  dout : Word
  deriving DecidableEq, Repr

/-- Reasons for a fault: there are none. "The engine raises nothing" (R240), so the type has no
constructor and no step can fault; that is safe, since nothing is left out by it. -/
inductive Fault where
  deriving DecidableEq, Repr

/-- Reasons for a refusal. -/
inductive Refusal where
  /-- Raised by an arm of `exec` for a command that has no meaning in the model yet; safe. No arm
  raises it: every row of the opcode table has its meaning. -/
  | notModelled (mnemonic : String)
  deriving DecidableEq, Repr

/-- The operator record right after reset (R44): every register 0 but `EG_LEVEL` 63, the envelope
in End at maximum attenuation. -/
def OpRec.reset (c : Cfg) : OpRec :=
  { pitch := 0
    mode := 0
    detune := 0
    olatt := 0
    ams := 0
    rs := 0
    egRate := PerSeg.const 0
    egLevel := PerSeg.const 63
    phase := 0
    egCur := 2 ^ c.egW - 1
    egStage := .ended }

/-- The voice record right after reset (R44). -/
def Voice.reset (c : Cfg) : Voice :=
  { ops := PerOp.const (OpRec.reset c)
    alg := 0
    fbl := 0
    vpitch := 0
    pbend := 0x2000
    pms := 0
    pegRate := PerSeg.const 0
    pegLevel := PerSeg.const 0x80
    lfoInc := 0
    lfoDelayInc := 0
    lfoFadeInc := 0
    lfoPmd := 0
    lfoAmd := 0
    lfoWave := 0
    lfoSync := 0
    mixRange := PerCtrl.const 0
    mixAssign := PerCtrl.const 0
    mixRaw := PerCtrl.const 0
    pegCur := 0x4000
    pegStage := .ended
    pegToggle := false
    lfoPhase := 0
    lfoDelayAcc := 0
    lfoFadeAcc := 0
    lfoStage := .delay
    lfoRand := BitVec.ofNat 8 c.lcgSeed
    lfoPout := 0
    lfoAout := 0
    mod := 0
    mem := 0
    sum := 0
    fb1 := 0
    fb2 := 0
    out := 0
    seq := 0 }

/-- `reset : Cfg -> State` (R260, R261): every voice at reset, `DOUT` 0, nothing on the port. -/
def State.resetWith (c : Cfg) : State :=
  { cfg := c, port := [], voices := List.replicate c.nvoice (Voice.reset c), dout := 0 }

/-- Building an engine from a configuration: one that fails a check of R6 is refused, not repaired
(93_implementation_defined.md, part 2). -/
def State.build? (c : Cfg) : Option State := if c.wf then some (State.resetWith c) else none

/-- The machine right after reset, with the default configuration of R6. -/
def State.reset : State := State.resetWith defaultCfg

end Sys2Proof.Machine
end

