-- ==== Sys2Proof/Machine/Ops.lean ====
section
/-! DEFINITION. The named operations over the machine: taking a word from the command port, finding
a voice record, replacing one. There is no operation for taking an exception or returning from one,
because the engine has neither (R240, R244, R245 of 60_exceptions.md), and none over byte memory,
because there is none (R60 of 20_memory.md). -/

namespace Sys2Proof.Machine

/-- The next word on the command port and the state with it taken; an idle port is held at 0
(R80, R100; DEDUCED: notes/assumptions/1.md). -/
def fetch (s : State) : Word × State :=
  match s.port with
  | [] => (0, s)
  | w :: rest => (w, { s with port := rest })

/-- `VOICE[v]`, absent when `v >= NVOICE` (R85); a record missing from the list, which no run meets,
counts as absent (DESIGN CHOICE, safe: notes/assumptions/13.md). -/
def voiceAt (s : State) (v : VoiceNum) : Option Voice :=
  if v.toNat < s.cfg.nvoice then s.voices[v.toNat]? else none

/-- The state with `VOICE[v]` replaced. -/
def putVoice (s : State) (v : VoiceNum) (V : Voice) : State :=
  { s with voices := s.voices.set v.toNat V }

/-- The state with `DOUT` replaced. -/
def putDout (s : State) (x : Word) : State := { s with dout := x }

/-- A command on one voice: a voice number not below `NVOICE` makes the whole word a no-op (R85). -/
def onVoice (s : State) (v : VoiceNum) (f : Voice → Voice) : Host.Outcome State Fault Refusal :=
  match voiceAt s v with
  | none => .next s
  | some V => .next (putVoice s v (f V))

end Sys2Proof.Machine
end

