-- ==== Sys2Proof/Machine/ControllerCommands.lean ====
section
/-! DEFINITION. The performance controls: `SET_CTRL` and `SET_PBEND` (R107, R108 of
40_host_commands.md). -/

namespace Sys2Proof.Machine

/-- The source a controller number writes. The cases are tried in R107's order: 1 mod wheel,
4 foot, 2 breath, `AT_NUM` after-touch; 64, 65 and every other number have no effect
(DEDUCED for an `AT_NUM` that collides: notes/assumptions/10.md). -/
def ctrlSource (c : Cfg) (n : Addr) : Option Ctrl :=
  if n = 1 then some .modWheel
  else if n = 4 then some .foot
  else if n = 2 then some .breath
  else if n.toNat = c.atNum then some .afterTouch
  else none

/-- The effect of `SET_CTRL` on a voice (R107). -/
def setCtrlVoice (c : Cfg) (n : Addr) (x : BitVec 7) (V : Voice) : Voice :=
  match ctrlSource c n with
  | some k => { V with mixRaw := V.mixRaw.set k x }
  | none => V

/-- `SET_CTRL v, N, D[6:0]` (R107). -/
def execSetCtrl (v : VoiceNum) (n : Addr) (x : BitVec 7) (s : State) :
    Host.Outcome State Fault Refusal :=
  onVoice s v (setCtrlVoice s.cfg n x)

/-- `SET_PBEND v, D[13:0]` (R108). -/
def execSetPbend (v : VoiceNum) (x : BitVec 14) (s : State) : Host.Outcome State Fault Refusal :=
  onVoice s v fun V => { V with pbend := x }

end Sys2Proof.Machine
end

