-- ==== Sys2Proof/Machine/Envelope.lean ====
section
/-! DEFINITION. The per-operator envelope generator (41_envelope_generator.md). -/

namespace Sys2Proof.Machine

/-- `seg(stage) = [0, 1, 2, 2, 3, 3][stage]` (R120, and R190 for the pitch envelope). -/
def stageSeg : EgStage → Seg
  | .attack => .attack
  | .decay1 => .decay1
  | .decay2 => .decay2
  | .sustain => .decay2
  | .release => .release
  | .ended => .release

/-- Sustain and End are terminal: their increment is 0 and reaching the target does not leave
them (R120, R125). -/
def stageHolds : EgStage → Bool
  | .sustain => true
  | .ended => true
  | .attack => false
  | .decay1 => false
  | .decay2 => false
  | .release => false

/-- The stage after a target is reached: `st + 1` where the stage advances at all (R128, R192). -/
def stageNext : EgStage → EgStage
  | .attack => .decay1
  | .decay1 => .decay2
  | .decay2 => .sustain
  | .sustain => .sustain
  | .release => .ended
  | .ended => .ended

/-- keyOff: to Release, unless already there or past it (R127, R194). -/
def stageKeyOff (st : EgStage) : EgStage := if st.code < 4 then .release else st

/-- `att8`: a 6-bit code to an 8-bit attenuation by bit replication (R123). -/
def att8 (a : Nat) : Nat := ((a <<< 2) ||| (a >>> 4)) % 256

/-- `EgTarget`: the att8 sum, saturated at 255, in the top 8 bits of `EG_CUR` (R124). -/
def egTarget (c : Cfg) (p : OpRec) (st : EgStage) : Nat :=
  min 255 (att8 (p.egLevel.get (stageSeg st)) + p.olatt.toNat) <<< (c.egW - 8)

/-- `EgInc`: 0 in Sustain and End, else the rate table entry of the stage's rate code (R125). -/
def egInc (c : Cfg) (p : OpRec) (st : EgStage) : Nat :=
  if stageHolds st then 0 else tbl c.egInc (p.egRate.get (stageSeg st))

/-- The attenuation after one clock (R128). -/
def egMoved (c : Cfg) (p : OpRec) : Nat :=
  moveToward p.egCur (egTarget c p p.egStage) (egInc c p p.egStage)

/-- The stage after one clock: at most one advance, in the clock that finds the target reached
(R128). -/
def egStageAfter (c : Cfg) (p : OpRec) : EgStage :=
  if egMoved c p = egTarget c p p.egStage then stageNext p.egStage else p.egStage

/-- `EgClock`: the operator record after one clock (R128). -/
def egClock (c : Cfg) (p : OpRec) : OpRec :=
  { p with egCur := egMoved c p, egStage := egStageAfter c p }

/-- `ATT12`, the envelope's output: the top `ATT_W` bits of `EG_CUR` (R129). -/
def egAtt (c : Cfg) (p : OpRec) : Nat := p.egCur >>> (c.egW - c.attW)

/-- `EgComplete`: the envelope is in End (R131). -/
def egComplete (p : OpRec) : Bool := p.egStage == .ended

end Sys2Proof.Machine
end

