-- ==== Sys2Proof/Machine/Mixer.lean ====
section
/-! DEFINITION. The combinational functions of 45_modulation_and_pitch.md: modulation mixer, EG
bias, pitch and amplitude modulation, operator pitch and phase increment. None is state (R40). -/

namespace Sys2Proof.Machine

/-- `Scaled(v, s)` (R201). -/
def scaled (c : Cfg) (V : Voice) (k : Ctrl) : Nat :=
  ((V.mixRaw.get k).toNat * (V.mixRange.get k).toNat * c.mixK) >>> c.mixShift

/-- The sum over the sources whose `MIX_ASSIGN` bit `dest` is set, clamped once to 255 (R202). -/
def mixDest (c : Cfg) (V : Voice) (dest : Nat) : Nat :=
  min 255 ((Ctrl.all.map fun k =>
    if (V.mixAssign.get k).getLsbD dest then scaled c V k else 0).sum)

/-- `MIX_P`: pitch (R202). -/
def mixP (c : Cfg) (V : Voice) : Nat := mixDest c V 0

/-- `MIX_A`: amplitude (R202). -/
def mixA (c : Cfg) (V : Voice) : Nat := mixDest c V 1

/-- `MIX_E`: EG bias (R202). -/
def mixE (c : Cfg) (V : Voice) : Nat := mixDest c V 2

/-- `EB`: the attenuation that the controllers assigned to EG bias remove; 0 when none is
assigned (R203). -/
def eb (c : Cfg) (V : Voice) : Nat :=
  if Ctrl.all.any (fun k => (V.mixAssign.get k).getLsbD 2) then 255 - mixE c V else 0

/-- `PMOD`: pitch modulation amount (R204). -/
def pmod (c : Cfg) (V : Voice) : Int :=
  asr (V.lfoPout.toInt * (tbl c.pmsGain V.pms.toNat : Int)) c.pmodShift

/-- `AMATT(v, o)`: amplitude-modulation attenuation (R205). -/
def amAtt (c : Cfg) (V : Voice) (o : OpNum) : Nat :=
  (min 255 (V.lfoAout.toNat + eb c V) * tbl c.amsGain (V.ops.get o).ams.toNat) >>> 8

/-- `PBOFF`: pitch-bend offset (R207). -/
def pbOff (c : Cfg) (V : Voice) : Int := asr ((V.pbend.toNat : Int) - 0x2000) c.pbShift

/-- `PEG_OUT = PEG_CUR - 0x4000` (R193). -/
def pegOut (V : Voice) : Int := (V.pegCur.toNat : Int) - 0x4000

/-- `VP`: voice pitch (R206). -/
def voicePitch (c : Cfg) (V : Voice) : Int := (V.vpitch.toNat : Int) + pbOff c V + pegOut V

/-- `x`: operator pitch, clamped to 0 to 0xFFFF (R208). -/
def operatorPitch (c : Cfg) (V : Voice) (o : OpNum) : Int :=
  let p := V.ops.get o
  let base : Int := if p.mode = 1 then (p.pitch.toNat : Int) else p.pitch.toInt + voicePitch c V
  clamp (base + p.detune.toInt * (c.detuneStep : Int) + pmod c V) 0 0xFFFF

/-- The phase increment of the pitch `x`: octave `x / PITCH_OCT`, fraction `x mod PITCH_OCT`
(R209). -/
def pitchInc (c : Cfg) (x : Nat) : Nat :=
  wrap c.phaseW ((tbl c.freqm (x % c.pitchOct) <<< (x / c.pitchOct)) >>> 8)

/-- `PINC(v, o)` (R209). -/
def pinc (c : Cfg) (V : Voice) (o : OpNum) : Nat := pitchInc c (operatorPitch c V o).toNat

end Sys2Proof.Machine
end

