-- ==== Sys2Proof/Machine/Lfo.lean ====
section
/-! DEFINITION. The low-frequency oscillator (43_lfo.md). -/

namespace Sys2Proof.Machine

/-- The LFO part of `KEY_ON` (R171). -/
def lfoKeyOn (V : Voice) : Voice :=
  { V with
    lfoDelayAcc := 0
    lfoFadeAcc := 0
    lfoStage := .delay
    lfoPhase := if V.lfoSync = 1 then 0xFFFF else V.lfoPhase }

/-- Delay and fade, at most one of them per tick (R172, R173, R174). -/
def lfoGate (V : Voice) : Voice :=
  match V.lfoStage with
  | .delay =>
    let x := V.lfoDelayAcc.toNat + V.lfoDelayInc.toNat
    if 0xFFFF ≤ x then { V with lfoDelayAcc := 0xFFFF, lfoStage := .fade }
    else { V with lfoDelayAcc := BitVec.ofNat 16 x }
  | .fade =>
    let x := V.lfoFadeAcc.toNat + V.lfoFadeInc.toNat
    if 0xFFFF ≤ x then { V with lfoFadeAcc := 0xFFFF, lfoStage := .steady }
    else { V with lfoFadeAcc := BitVec.ofNat 16 x }
  | .steady => V

/-- One step of the sample-and-hold generator (R175). -/
def lcgNext (c : Cfg) (r : BitVec 8) : BitVec 8 := BitVec.ofNat 8 (r.toNat * c.lcgA + c.lcgC)

/-- The phase advance; the generator steps when the addition carries out (R172, R175). -/
def lfoAdvance (c : Cfg) (V : Voice) : Voice :=
  let x := V.lfoPhase.toNat + V.lfoInc.toNat
  { V with
    lfoRand := if 0x10000 ≤ x then lcgNext c V.lfoRand else V.lfoRand
    lfoPhase := BitVec.ofNat 16 x }

/-- The triangle: `p[14:7]`, mirrored in the second half (R176). -/
def waveTriangle (p : BitVec 16) : Nat :=
  let t := (p.extractLsb' 7 8).toNat
  if p.getLsbD 15 then 255 - t else t

/-- The sine: quadrant `p[15:14]`, table index `p[13:8]` mirrored in odd quadrants, below the
centre in the second half (R176). -/
def waveSine (c : Cfg) (p : BitVec 16) : Nat :=
  let i := (p.extractLsb' 8 6).toNat
  let m := tbl c.lfoSine (if p.getLsbD 14 then 63 - i else i)
  if p.getLsbD 15 then 128 - m else 128 + m

/-- `Wave(w, p, r)`, an unsigned value with 128 as the centre; codes 6 and 7 are reserved and give
the centre (R176, R178). -/
def wave (c : Cfg) (w : BitVec 3) (p : BitVec 16) (r : BitVec 8) : Nat :=
  match w.toNat with
  | 0 => waveTriangle p
  | 1 => 255 - (p.extractLsb' 8 8).toNat
  | 2 => (p.extractLsb' 8 8).toNat
  | 3 => if p.getLsbD 15 then 0 else 255
  | 4 => waveSine c p
  | 5 => r.toNat
  | _ => 128

/-- `fade = LFO_FADEACC[15:8]` (R172, R174). -/
def lfoFade (V : Voice) : Nat := (V.lfoFadeAcc.extractLsb' 8 8).toNat

/-- A depth: the register's depth faded, the controllers' depth added unfaded, clamped (R177). -/
def lfoDepth (fade depth mix : Nat) : Nat := min 255 (((fade * depth) >>> 8) + mix)

/-- `asr((u - 128) * pd, 8)`, bipolar (R177). -/
def lfoPitchOut (u pd : Nat) : Int := asr (((u : Int) - 128) * (pd : Int)) 8

/-- `(u * ad) >> 8`, unipolar (R177). -/
def lfoAmpOut (u ad : Nat) : Nat := (u * ad) >>> 8

/-- Wave, depth and outputs (R172, R177). -/
def lfoOutputs (c : Cfg) (V : Voice) : Voice :=
  let u := wave c V.lfoWave V.lfoPhase V.lfoRand
  { V with
    lfoPout := BitVec.ofInt 8 (lfoPitchOut u (lfoDepth (lfoFade V) V.lfoPmd.toNat (mixP c V)))
    lfoAout := BitVec.ofNat 8 (lfoAmpOut u (lfoDepth (lfoFade V) V.lfoAmd.toNat (mixA c V))) }

/-- `LfoTick(v)` (R172). -/
def lfoTick (c : Cfg) (V : Voice) : Voice := lfoOutputs c (lfoAdvance c (lfoGate V))

end Sys2Proof.Machine
end

