-- ==== Sys2Proof/Machine/GateCommands.lean ====
section
/-! DEFINITION. The gate commands `KEY_ON` and `KEY_OFF` (R105, R106 of 40_host_commands.md). -/

namespace Sys2Proof.Machine

/-- The effect of `KEY_ON` on a voice: six envelopes and the pitch envelope to Attack, the LFO's
delay and fade restarted (R105, R126, R171, R194). -/
def keyOnVoice (V : Voice) : Voice :=
  lfoKeyOn { V with
    ops := V.ops.map fun p => { p with egStage := .attack }
    pegStage := .attack }

/-- The effect of `KEY_OFF` on a voice: every stage before Release goes to Release
(R106, R127, R194). -/
def keyOffVoice (V : Voice) : Voice :=
  { V with
    ops := V.ops.map fun p => { p with egStage := stageKeyOff p.egStage }
    pegStage := stageKeyOff V.pegStage }

/-- `KEY_ON v` (R105). -/
def execKeyOn (v : VoiceNum) (s : State) : Host.Outcome State Fault Refusal :=
  onVoice s v keyOnVoice

/-- `KEY_OFF v` (R106). -/
def execKeyOff (v : VoiceNum) (s : State) : Host.Outcome State Fault Refusal :=
  onVoice s v keyOffVoice

end Sys2Proof.Machine
end

