-- ==== Sys2Proof/Machine/Flags.lean ====
section
/-! DEFINITION. The status the engine keeps. There are no condition flags: no carry, zero, overflow
or negative flag, and no command reads or writes one (R31 of 10_state.md). What stands in their
place are the stage fields, held in State, and the read-only status values computed here (R43). -/

namespace Sys2Proof.Machine

/-- `COMPLETE(V)`: all six envelopes are in End (R31, R131). -/
def complete (V : Voice) : Bool := V.ops.toList.all egComplete

/-- The read-only status registers (R43). -/
inductive StatusReg where
  | out | complete | lfoPout | lfoAout | lfoFade | pegOut
  | egAtt (o : OpNum)
  | egStage (o : OpNum)
  deriving DecidableEq, Repr

/-- The value `RD_REG` returns for a status address: `OUT`, `LFO_POUT` and `PEG_OUT` sign-extended,
the others zero-extended (R43). -/
def statusRead (c : Cfg) (V : Voice) : StatusReg → Word
  | .out => BitVec.ofInt 32 V.out
  | .complete => if complete V then 1 else 0
  | .lfoPout => V.lfoPout.signExtend 32
  | .lfoAout => V.lfoAout.setWidth 32
  | .lfoFade => (V.lfoFadeAcc.extractLsb' 8 8).setWidth 32
  | .pegOut => BitVec.ofInt 32 (pegOut V)
  | .egAtt o => BitVec.ofNat 32 (egAtt c (V.ops.get o))
  | .egStage o => BitVec.ofNat 32 (V.ops.get o).egStage.code

end Sys2Proof.Machine
end

