-- ==== Sys2Proof/Machine/Operands.lean ====
section
/-! DEFINITION. The one operand form the engine has: the 8-bit register address `A` of a voice
(R41, R42 of 10_state.md; R115 of 40_host_commands.md), with the register map, the read primitive
`RegRead` (R104) and the write primitive `RegWrite` (R101). -/

namespace Sys2Proof.Machine

/-- The 14 parameter registers of an operator record (R21). -/
inductive OpReg where
  | pitch | mode | detune | olatt | ams | rs
  | egRate (s : Seg)
  | egLevel (s : Seg)
  deriving DecidableEq, Repr

/-- The voice registers (R32). -/
inductive VoiceReg where
  | alg | fbl | vpitch | pbend | pms
  | pegRate (s : Seg)
  | pegLevel (s : Seg)
  | lfoInc | lfoDelayInc | lfoFadeInc | lfoPmd | lfoAmd | lfoWave | lfoSync
  | mixRange (k : Ctrl)
  | mixAssign (k : Ctrl)
  | mixRaw (k : Ctrl)
  deriving DecidableEq, Repr

/-- What a register address names (R42). -/
inductive Reg where
  | op (o : OpNum) (r : OpReg)
  | voice (r : VoiceReg)
  | status (r : StatusReg)
  | reserved
  deriving DecidableEq, Repr

/-- The operator registers by offset 0x0 to 0xF (R21). -/
def opMap : List (Option OpReg) := [
  some .pitch, some .mode, some .detune, some .olatt, some .ams, some .rs, none, none,
  some (.egRate .attack), some (.egRate .decay1), some (.egRate .decay2), some (.egRate .release),
  some (.egLevel .attack), some (.egLevel .decay1), some (.egLevel .decay2), some (.egLevel .release)]

/-- The voice registers by address, from 0x60 (R32). -/
def voiceMap : List (Option VoiceReg) := [
  some .alg, some .fbl, some .vpitch, some .pbend, some .pms, none, none, none,
  some (.pegRate .attack), some (.pegRate .decay1), some (.pegRate .decay2), some (.pegRate .release),
  some (.pegLevel .attack), some (.pegLevel .decay1), some (.pegLevel .decay2),
  some (.pegLevel .release),
  some .lfoInc, some .lfoDelayInc, some .lfoFadeInc, some .lfoPmd, some .lfoAmd, some .lfoWave,
  some .lfoSync, none,
  some (.mixRange .modWheel), some (.mixRange .foot), some (.mixRange .breath),
  some (.mixRange .afterTouch),
  some (.mixAssign .modWheel), some (.mixAssign .foot), some (.mixAssign .breath),
  some (.mixAssign .afterTouch),
  some (.mixRaw .modWheel), some (.mixRaw .foot), some (.mixRaw .breath), some (.mixRaw .afterTouch)]

/-- The status registers by address, from 0xE0 (R43). -/
def statusMap : List (Option StatusReg) := [
  some .out, some .complete, some .lfoPout, some .lfoAout, some .lfoFade, some .pegOut, none, none,
  some (.egAtt .op1), some (.egAtt .op2), some (.egAtt .op3), some (.egAtt .op4), some (.egAtt .op5),
  some (.egAtt .op6), none, none,
  some (.egStage .op1), some (.egStage .op2), some (.egStage .op3), some (.egStage .op4),
  some (.egStage .op5), some (.egStage .op6)]

/-- The operator of the address block 0x00 to 0x5F, from `A / 0x10` (R84). -/
def opOfBlock : Nat → Option OpNum
  | 0 => some .op1
  | 1 => some .op2
  | 2 => some .op3
  | 3 => some .op4
  | 4 => some .op5
  | 5 => some .op6
  | _ => none

/-- The operator register at offset `k` of operator `o`, reserved where R21 has none. -/
def opRegAt (o : OpNum) (k : Nat) : Reg :=
  match opMap.getD k none with
  | some r => .op o r
  | none => .reserved

/-- The register map of one voice (R42). -/
def regAt (a : Addr) : Reg :=
  match opOfBlock (a.toNat / 16) with
  | some o => opRegAt o (a.toNat % 16)
  | none =>
    if a.toNat < 0xE0 then
      match voiceMap.getD (a.toNat - 0x60) none with
      | some r => .voice r
      | none => .reserved
    else
      match statusMap.getD (a.toNat - 0xE0) none with
      | some r => .status r
      | none => .reserved

/-- The offset of an operator register (R21). -/
def opRegOffset : OpReg → Nat
  | .pitch => 0x0
  | .mode => 0x1
  | .detune => 0x2
  | .olatt => 0x3
  | .ams => 0x4
  | .rs => 0x5
  | .egRate s => 0x8 + s.num
  | .egLevel s => 0xC + s.num

/-- The address `OPo.NAME`: `(o - 1) * 0x10 + offset` (R84, R88). -/
def opRegAddr (o : OpNum) (r : OpReg) : Addr :=
  BitVec.ofNat 8 ((o.num - 1) * 0x10 + opRegOffset r)

/-- The address of a voice register (R32). -/
def voiceRegAddr : VoiceReg → Addr
  | .alg => 0x60
  | .fbl => 0x61
  | .vpitch => 0x62
  | .pbend => 0x63
  | .pms => 0x64
  | .pegRate s => BitVec.ofNat 8 (0x68 + s.num)
  | .pegLevel s => BitVec.ofNat 8 (0x6C + s.num)
  | .lfoInc => 0x70
  | .lfoDelayInc => 0x71
  | .lfoFadeInc => 0x72
  | .lfoPmd => 0x73
  | .lfoAmd => 0x74
  | .lfoWave => 0x75
  | .lfoSync => 0x76
  | .mixRange k => BitVec.ofNat 8 (0x78 + k.num)
  | .mixAssign k => BitVec.ofNat 8 (0x7C + k.num)
  | .mixRaw k => BitVec.ofNat 8 (0x80 + k.num)

/-- The address of a status register (R43). -/
def statusRegAddr : StatusReg → Addr
  | .out => 0xE0
  | .complete => 0xE1
  | .lfoPout => 0xE2
  | .lfoAout => 0xE3
  | .lfoFade => 0xE4
  | .pegOut => 0xE5
  | .egAtt o => BitVec.ofNat 8 (0xE8 + (o.num - 1))
  | .egStage o => BitVec.ofNat 8 (0xF0 + (o.num - 1))

/-- The width of an operator register (R21). -/
def opRegWidth (c : Cfg) : OpReg → Nat
  | .pitch => 16
  | .mode => 1
  | .detune => 4
  | .olatt => 8
  | .ams => 2
  | .rs => 3
  | .egRate _ => c.egCodeW
  | .egLevel _ => c.egCodeW

/-- The width of a voice register (R32). -/
def voiceRegWidth : VoiceReg → Nat
  | .alg => 5
  | .fbl => 3
  | .vpitch => 16
  | .pbend => 14
  | .pms => 3
  | .pegRate _ => 16
  | .pegLevel _ => 8
  | .lfoInc => 16
  | .lfoDelayInc => 16
  | .lfoFadeInc => 16
  | .lfoPmd => 8
  | .lfoAmd => 8
  | .lfoWave => 3
  | .lfoSync => 1
  | .mixRange _ => 7
  | .mixAssign _ => 3
  | .mixRaw _ => 7

/-- An operator register read: the stored pattern, zero-extended (R104). -/
def opRegRead (p : OpRec) : OpReg → Word
  | .pitch => p.pitch.setWidth 32
  | .mode => p.mode.setWidth 32
  | .detune => p.detune.setWidth 32
  | .olatt => p.olatt.setWidth 32
  | .ams => p.ams.setWidth 32
  | .rs => p.rs.setWidth 32
  | .egRate s => BitVec.ofNat 32 (p.egRate.get s)
  | .egLevel s => BitVec.ofNat 32 (p.egLevel.get s)

/-- An operator register written: the data reduced to the register's width (R101). -/
def opRegWrite (c : Cfg) (p : OpRec) (r : OpReg) (d : Data) : OpRec :=
  match r with
  | .pitch => { p with pitch := d }
  | .mode => { p with mode := d.setWidth 1 }
  | .detune => { p with detune := d.setWidth 4 }
  | .olatt => { p with olatt := d.setWidth 8 }
  | .ams => { p with ams := d.setWidth 2 }
  | .rs => { p with rs := d.setWidth 3 }
  | .egRate s => { p with egRate := p.egRate.set s (wrap c.egCodeW d.toNat) }
  | .egLevel s => { p with egLevel := p.egLevel.set s (wrap c.egCodeW d.toNat) }

/-- A voice register read: the stored pattern, zero-extended (R104). -/
def voiceRegRead (V : Voice) : VoiceReg → Word
  | .alg => V.alg.setWidth 32
  | .fbl => V.fbl.setWidth 32
  | .vpitch => V.vpitch.setWidth 32
  | .pbend => V.pbend.setWidth 32
  | .pms => V.pms.setWidth 32
  | .pegRate s => (V.pegRate.get s).setWidth 32
  | .pegLevel s => (V.pegLevel.get s).setWidth 32
  | .lfoInc => V.lfoInc.setWidth 32
  | .lfoDelayInc => V.lfoDelayInc.setWidth 32
  | .lfoFadeInc => V.lfoFadeInc.setWidth 32
  | .lfoPmd => V.lfoPmd.setWidth 32
  | .lfoAmd => V.lfoAmd.setWidth 32
  | .lfoWave => V.lfoWave.setWidth 32
  | .lfoSync => V.lfoSync.setWidth 32
  | .mixRange k => (V.mixRange.get k).setWidth 32
  | .mixAssign k => (V.mixAssign.get k).setWidth 32
  | .mixRaw k => (V.mixRaw.get k).setWidth 32

/-- A voice register written: the data reduced to the register's width; `ALG` alone ignores data
above 31 (R33, R101). -/
def voiceRegWrite (V : Voice) (r : VoiceReg) (d : Data) : Voice :=
  match r with
  | .alg => if d.toNat ≤ 31 then { V with alg := d.setWidth 5 } else V
  | .fbl => { V with fbl := d.setWidth 3 }
  | .vpitch => { V with vpitch := d }
  | .pbend => { V with pbend := d.setWidth 14 }
  | .pms => { V with pms := d.setWidth 3 }
  | .pegRate s => { V with pegRate := V.pegRate.set s d }
  | .pegLevel s => { V with pegLevel := V.pegLevel.set s (d.setWidth 8) }
  | .lfoInc => { V with lfoInc := d }
  | .lfoDelayInc => { V with lfoDelayInc := d }
  | .lfoFadeInc => { V with lfoFadeInc := d }
  | .lfoPmd => { V with lfoPmd := d.setWidth 8 }
  | .lfoAmd => { V with lfoAmd := d.setWidth 8 }
  | .lfoWave => { V with lfoWave := d.setWidth 3 }
  | .lfoSync => { V with lfoSync := d.setWidth 1 }
  | .mixRange k => { V with mixRange := V.mixRange.set k (d.setWidth 7) }
  | .mixAssign k => { V with mixAssign := V.mixAssign.set k (d.setWidth 3) }
  | .mixRaw k => { V with mixRaw := V.mixRaw.set k (d.setWidth 7) }

/-- `RegRead(v, A)`: a reserved address reads 0 (R104, R42). -/
def regRead (c : Cfg) (V : Voice) (a : Addr) : Word :=
  match regAt a with
  | .op o r => opRegRead (V.ops.get o) r
  | .voice r => voiceRegRead V r
  | .status r => statusRead c V r
  | .reserved => 0

/-- `RegWrite(v, A, D)`: a read-only or reserved address ignores the write (R101, R42). -/
def regWrite (c : Cfg) (V : Voice) (a : Addr) (d : Data) : Voice :=
  match regAt a with
  | .op o r => { V with ops := V.ops.set o (opRegWrite c (V.ops.get o) r d) }
  | .voice r => voiceRegWrite V r d
  | .status _ => V
  | .reserved => V

end Sys2Proof.Machine
end

