-- ==== Sys2Proof/Machine/RegisterCommands.lean ====
section
/-! DEFINITION. The commands that move values between the host and the registers: `NOP`, `WR_REG`,
`RD_REG` (R100, R101, R104 of 40_host_commands.md). -/

namespace Sys2Proof.Machine

/-- `NOP`: no state change (R100). -/
def execNop (s : State) : Host.Outcome State Fault Refusal := .next s

/-- `WR_REG v, A, D`: `RegWrite(v, A, D)` (R101). -/
def execWrReg (v : VoiceNum) (a : Addr) (d : Data) (s : State) : Host.Outcome State Fault Refusal :=
  onVoice s v fun V => regWrite s.cfg V a d

/-- `RD_REG v, A`: `DOUT <- RegRead(v, A)`; `DOUT` is unchanged when `v >= NVOICE` (R104). -/
def execRdReg (v : VoiceNum) (a : Addr) (s : State) : Host.Outcome State Fault Refusal :=
  match voiceAt s v with
  | none => .next s
  | some V => .next (putDout s (regRead s.cfg V a))

end Sys2Proof.Machine
end

