-- ==== Sys2Proof/Machine/ReservedCommands.lean ====
section
/-! DEFINITION. The reserved opcodes 0x9 to 0xF: "They behave exactly as `NOP`" (R111 of
40_host_commands.md). -/

namespace Sys2Proof.Machine

/-- What a reserved opcode does: no state change, `DOUT` unchanged (R111). -/
def reservedNoEffect (s : State) : Host.Outcome State Fault Refusal := .next s

/-- Reserved opcode 0x9 (R111). -/
def execRsvd9 (s : State) : Host.Outcome State Fault Refusal := reservedNoEffect s

/-- Reserved opcode 0xA (R111). -/
def execRsvdA (s : State) : Host.Outcome State Fault Refusal := reservedNoEffect s

/-- Reserved opcode 0xB (R111). -/
def execRsvdB (s : State) : Host.Outcome State Fault Refusal := reservedNoEffect s

/-- Reserved opcode 0xC (R111). -/
def execRsvdC (s : State) : Host.Outcome State Fault Refusal := reservedNoEffect s

/-- Reserved opcode 0xD (R111). -/
def execRsvdD (s : State) : Host.Outcome State Fault Refusal := reservedNoEffect s

/-- Reserved opcode 0xE (R111). -/
def execRsvdE (s : State) : Host.Outcome State Fault Refusal := reservedNoEffect s

/-- Reserved opcode 0xF (R111). -/
def execRsvdF (s : State) : Host.Outcome State Fault Refusal := reservedNoEffect s

end Sys2Proof.Machine
end

