-- ==== Sys2Proof/Machine/PitchEg.lean ====
section
/-! DEFINITION. The pitch envelope generator (44_pitch_eg.md). Its stages, segments and gate rule
are those of the amplitude envelope (R190, R194). -/

namespace Sys2Proof.Machine

/-- `PegTarget = PEG_LEVEL[seg] << 7` (R190). -/
def pegTarget (V : Voice) : Nat := (V.pegLevel.get (stageSeg V.pegStage)).toNat <<< 7

/-- `PegInc`: 0 in Sustain and End, else `PEG_RATE[seg]` (R190). -/
def pegInc (V : Voice) : Nat :=
  if stageHolds V.pegStage then 0 else (V.pegRate.get (stageSeg V.pegStage)).toNat

/-- The value after one update (R192). -/
def pegMoved (V : Voice) : Nat := moveToward V.pegCur.toNat (pegTarget V) (pegInc V)

/-- `PegUpdate(v)`: the move, then at most one stage advance (R192). -/
def pegUpdate (V : Voice) : Voice :=
  { V with
    pegCur := BitVec.ofNat 15 (pegMoved V)
    pegStage := if pegMoved V = pegTarget V then stageNext V.pegStage else V.pegStage }

/-- `PegTick(v)`: the toggle, and an update when it returns to 0 (R191). -/
def pegTick (V : Voice) : Voice :=
  let V' := { V with pegToggle := !V.pegToggle }
  if V'.pegToggle then V' else pegUpdate V'

end Sys2Proof.Machine
end

