-- ==== Sys2Proof/Machine/Router.lean ====
section
/-! DEFINITION. The body of `SAMPLE`: the seven steps of an operator evaluation and the algorithm
router (42_ops_algorithm.md, R140 to R156). -/

namespace Sys2Proof.Machine

/-- An entry that routes nothing, read where a malformed `ALG_ROM` has no row (DESIGN CHOICE, safe:
notes/assumptions/9.md). -/
def silentEntry : AlgEntry :=
  { sel := .zero, fben := false, mr := false, mw := false, car := false, com := 0 }

/-- `ALG_ROM[a][o]` (R141, R159). -/
def romEntry (c : Cfg) (a : BitVec 5) (o : OpNum) : AlgEntry :=
  (c.algRom.getD a.toNat (PerOp.const silentEntry)).get o

/-- Step 1: `PHASE <- wrap(PHASE + PINC)` (R143). -/
def phaseAfter (c : Cfg) (V : Voice) (o : OpNum) : Nat :=
  wrap c.phaseW ((V.ops.get o).phase + pinc c V o)

/-- Step 2: the phase index from an accumulator value and a modulation (R145). -/
def phaseIndex (c : Cfg) (phase : Nat) (mod : Int) : Nat :=
  wrapInt c.phiW (((phase >>> (c.phaseW - c.phiW) : Nat) : Int) + mod)

/-- Step 3: `LOGSIN(h)`, the quarter wave and its reflection (R146). -/
def logSin (c : Cfg) (h : Nat) : Nat :=
  if h < 2 ^ (c.phiW - 2) then tbl c.lsq h else tbl c.lsq (2 ^ (c.phiW - 1) - 1 - h)

/-- Step 4: the attenuation sum, saturated (R147). One unit of `att` is 4 log units, one of
`AMATT` 64. -/
def attSum (c : Cfg) (ls att am : Nat) (com : Fin 8) : Nat :=
  sat c.logW (ls + (att <<< 2) + (am <<< 6) + tbl c.compAtt com.val)

/-- Step 5: `EXP(la)`, the mantissa of the low ten bits shifted right by the high bits (R148). -/
def expLin (c : Cfg) (la : Nat) : Nat := tbl c.expm (la % 1024) >>> (la / 1024)

/-- `EgAmp`: the envelope's linear amplitude, an observation function (R130). -/
def egAmp (c : Cfg) (p : OpRec) : Nat := expLin c (sat c.logW (egAtt c p <<< 2))

/-- Steps 3 to 5 for a phase index: the signed output, negative in the second half cycle
(R146 to R149). -/
def toneOut (c : Cfg) (phi att am : Nat) (com : Fin 8) : Int :=
  let mag := expLin c (attSum c (logSin c (phi % 2 ^ (c.phiW - 1))) att am com)
  if 2 ^ (c.phiW - 1) ≤ phi then -(mag : Int) else (mag : Int)

/-- The output of operator `o` when it is evaluated in the voice `V`: the envelope clock and the
phase advance first, then steps 2 to 5 (R142, R144). -/
def operatorOut (c : Cfg) (V : Voice) (o : OpNum) : Int :=
  toneOut c (phaseIndex c (phaseAfter c V o) V.mod) (egAtt c (egClock c (V.ops.get o)))
    (amAtt c V o) (romEntry c V.alg o).com

/-- `ModSel`: the modulation for the next operator evaluated (R153). -/
def modSel (c : Cfg) (sel : Sel) (out : Int) (V : Voice) : Int :=
  match sel with
  | .zero => 0
  | .own => asr out c.modShift
  | .sum => asr V.sum c.modShift
  | .mem => asr V.mem c.modShift
  | .fb1 => asr V.fb1 c.modShift
  | .fbPair => if V.fbl = 0 then 0 else asr (V.fb1 + V.fb2) (c.fbBase - V.fbl.toNat)
  | .reserved6 => 0
  | .reserved7 => 0

/-- Step 6, memory register (R150). -/
def routeMem (c : Cfg) (e : AlgEntry) (out : Int) (V : Voice) : Voice :=
  if e.mw then { V with mem := swrap c.accW ((if e.mr then V.mem else 0) + out) } else V

/-- Step 6, running sum (R151). -/
def routeSum (c : Cfg) (e : AlgEntry) (out : Int) (V : Voice) : Voice :=
  if e.car then { V with sum := swrap c.accW (V.sum + out) } else V

/-- Step 7, feedback registers (R152). -/
def routeFb (e : AlgEntry) (out : Int) (V : Voice) : Voice :=
  if e.fben then { V with fb2 := V.fb1, fb1 := out } else V

/-- The selection of `MOD`, made after steps 6 and 7 (R142, R153). -/
def routeMod (c : Cfg) (e : AlgEntry) (out : Int) (V : Voice) : Voice :=
  { V with mod := swrap c.accW (modSel c e.sel out V) }

/-- Steps 6 and 7 and the modulation select, in the order of R142. -/
def route (c : Cfg) (e : AlgEntry) (out : Int) (V : Voice) : Voice :=
  routeMod c e out (routeFb e out (routeSum c e out (routeMem c e out V)))

/-- The operator record after the envelope clock and the phase advance (R142, R143, R144). -/
def operatorClocked (c : Cfg) (V : Voice) (o : OpNum) : OpRec :=
  { egClock c (V.ops.get o) with phase := phaseAfter c V o }

/-- `OpEval(v, o)` (R142). -/
def opEval (c : Cfg) (V : Voice) (o : OpNum) : Voice :=
  route c (romEntry c V.alg o) (operatorOut c V o)
    { V with ops := V.ops.set o (operatorClocked c V o) }

/-- The evaluation order 6, 5, 4, 3, 2, 1 (R109, R140). -/
def evalOrder : List OpNum := [.op6, .op5, .op4, .op3, .op2, .op1]

/-- One turn of the sequencer: `SEQ <- o`, then `OpEval(v, o)` (R30, R109). -/
def seqEval (c : Cfg) (V : Voice) (o : OpNum) : Voice := opEval c { V with seq := o.num } o

/-- The whole of `SAMPLE` on one voice (R109, R155). -/
def sampleVoice (c : Cfg) (V : Voice) : Voice :=
  let V' := evalOrder.foldl (seqEval c) { V with sum := 0 }
  { V' with out := V'.sum, seq := 0 }

end Sys2Proof.Machine
end

