-- ==== Sys2Proof/Machine/StrobeCommands.lean ====
section
/-! DEFINITION. The two strobes: `SAMPLE` at audio rate and `TICK` at control rate (R109, R110 of
40_host_commands.md). -/

namespace Sys2Proof.Machine

/-- The effect of `TICK` on a voice: the LFO, then the pitch envelope (R110). -/
def tickVoice (c : Cfg) (V : Voice) : Voice := pegTick (lfoTick c V)

/-- `SAMPLE v` (R109). -/
def execSample (v : VoiceNum) (s : State) : Host.Outcome State Fault Refusal :=
  onVoice s v (sampleVoice s.cfg)

/-- `TICK v` (R110). -/
def execTick (v : VoiceNum) (s : State) : Host.Outcome State Fault Refusal :=
  onVoice s v (tickVoice s.cfg)

end Sys2Proof.Machine
end

