-- ==== Sys2Proof/Machine/Dispatch.lean ====
section
/-! DEFINITION. One arm for each row of the opcode table (R82, R114). -/

namespace Sys2Proof.Machine

def exec (i : Instr) (s : State) : Host.Outcome State Fault Refusal :=
  match i with
  | .nop => Sys2Proof.Machine.execNop s
  | .wrReg v a d => Sys2Proof.Machine.execWrReg v a d s
  | .rdReg v a => Sys2Proof.Machine.execRdReg v a s
  | .keyOn v => Sys2Proof.Machine.execKeyOn v s
  | .keyOff v => Sys2Proof.Machine.execKeyOff v s
  | .sample v => Sys2Proof.Machine.execSample v s
  | .tick v => Sys2Proof.Machine.execTick v s
  | .setCtrl v n x => Sys2Proof.Machine.execSetCtrl v n x s
  | .setPbend v x => Sys2Proof.Machine.execSetPbend v x s
  | .rsvd9 => Sys2Proof.Machine.execRsvd9 s
  | .rsvdA => Sys2Proof.Machine.execRsvdA s
  | .rsvdB => Sys2Proof.Machine.execRsvdB s
  | .rsvdC => Sys2Proof.Machine.execRsvdC s
  | .rsvdD => Sys2Proof.Machine.execRsvdD s
  | .rsvdE => Sys2Proof.Machine.execRsvdE s
  | .rsvdF => Sys2Proof.Machine.execRsvdF s

end Sys2Proof.Machine
end

