-- ==== Sys2Proof/Machine/Step.lean ====
section
/-! DEFINITION. One step of the engine: the next word of the command port is taken, decoded and
executed as a whole (R63, R65 of 20_memory.md; R114 of 40_host_commands.md). -/

namespace Sys2Proof.Machine

/-- One command (R114). With nothing on the port the word is 0, a `NOP` (R100). -/
def step (s : State) : Host.Outcome State Fault Refusal :=
  exec (decode (fetch s).1) (fetch s).2

/-- `s` with the word of `nbits` bits `w` presented first on the command port. -/
def State.withFetchWord (s : State) (nbits w : Nat) : State :=
  { s with port := BitVec.ofNat 32 (w % 2 ^ nbits) :: s.port }

end Sys2Proof.Machine
end

