-- ==== Sys2Proof/Machine/Firmware.lean ====
section
/-! DEFINITION. The firmware boundary: the source's calls as sequences of commands (R89 of
30_encoding.md; R220 to R229 of 46_firmware_boundary.md). The values written are arguments: the
tables that would compute them are the host's and not in the spec (R234). -/

namespace Sys2Proof.Machine

/-- Commands executed in order, each completely before the next (R65). -/
def runCmds : List Instr → State → Host.Outcome State Fault Refusal
  | [], s => .next s
  | i :: rest, s =>
    match exec i s with
    | .next t => runCmds rest t
    | .fault r => .fault r
    | .refused r => .refused r

/-- `WR_REG` to a register of operator `o` (R88). -/
def wrOp (v : VoiceNum) (o : OpNum) (r : OpReg) (d : Data) : Instr := .wrReg v (opRegAddr o r) d

/-- `WR_REG` to a voice register (R88). -/
def wrVoice (v : VoiceNum) (r : VoiceReg) (d : Data) : Instr := .wrReg v (voiceRegAddr r) d

/-- `setRate(stage, rate)` (R121). -/
def setRate (v : VoiceNum) (o : OpNum) (s : Seg) (rate : Data) : Instr := wrOp v o (.egRate s) rate

/-- `setLevel(stage, level)` (R122). -/
def setLevel (v : VoiceNum) (o : OpNum) (s : Seg) (level : Data) : Instr :=
  wrOp v o (.egLevel s) level

/-- The patch-derived values of one operator, after the host's translation (R221). -/
structure PatchOp where
  pitch : Data
  mode : Data
  detune : Data
  ams : Data
  rs : Data
  egRate : PerSeg Data
  egLevel : PerSeg Data
  olatt : Data
  deriving DecidableEq, Repr

/-- The patch-derived values of a voice, after the host's translation (R221). -/
structure Patch where
  ops : PerOp PatchOp
  alg : Data
  fbl : Data
  pms : Data
  pegRate : PerSeg Data
  pegLevel : PerSeg Data
  lfoInc : Data
  lfoDelayInc : Data
  lfoFadeInc : Data
  lfoPmd : Data
  lfoAmd : Data
  lfoWave : Data
  lfoSync : Data
  deriving DecidableEq, Repr

/-- The writes of one operator's patch values: 14 registers (R221). -/
def programOp (v : VoiceNum) (o : OpNum) (p : PatchOp) : List Instr :=
  [wrOp v o .pitch p.pitch, wrOp v o .mode p.mode, wrOp v o .detune p.detune, wrOp v o .ams p.ams,
   wrOp v o .rs p.rs, setRate v o .attack p.egRate.attack, setRate v o .decay1 p.egRate.decay1,
   setRate v o .decay2 p.egRate.decay2, setRate v o .release p.egRate.release,
   setLevel v o .attack p.egLevel.attack, setLevel v o .decay1 p.egLevel.decay1,
   setLevel v o .decay2 p.egLevel.decay2, setLevel v o .release p.egLevel.release,
   wrOp v o .olatt p.olatt]

/-- The writes of the patch's voice-level values (R221). -/
def programCommon (v : VoiceNum) (p : Patch) : List Instr :=
  [wrVoice v .alg p.alg, wrVoice v .fbl p.fbl, wrVoice v .pms p.pms,
   wrVoice v (.pegRate .attack) p.pegRate.attack, wrVoice v (.pegRate .decay1) p.pegRate.decay1,
   wrVoice v (.pegRate .decay2) p.pegRate.decay2, wrVoice v (.pegRate .release) p.pegRate.release,
   wrVoice v (.pegLevel .attack) p.pegLevel.attack, wrVoice v (.pegLevel .decay1) p.pegLevel.decay1,
   wrVoice v (.pegLevel .decay2) p.pegLevel.decay2,
   wrVoice v (.pegLevel .release) p.pegLevel.release,
   wrVoice v .lfoInc p.lfoInc, wrVoice v .lfoDelayInc p.lfoDelayInc,
   wrVoice v .lfoFadeInc p.lfoFadeInc, wrVoice v .lfoPmd p.lfoPmd, wrVoice v .lfoAmd p.lfoAmd,
   wrVoice v .lfoWave p.lfoWave, wrVoice v .lfoSync p.lfoSync]

/-- `programVoice(voiceIndex, patch)`: 102 register writes (R221). The spec allows any order; the
model writes operators 1 to 6 and then the voice (DESIGN CHOICE, safe: notes/assumptions/11.md). -/
def programVoice (v : VoiceNum) (p : Patch) : List Instr :=
  (OpNum.all.map fun o => programOp v o (p.ops.get o)).flatten ++ programCommon v p

/-- `gateOn(voiceIndex, note, velocity)`: `VPITCH`, six `OLATT`, `KEY_ON` (R224). -/
def gateOn (v : VoiceNum) (vpitch : Data) (olatt : PerOp Data) : List Instr :=
  wrVoice v .vpitch vpitch :: (OpNum.all.map fun o => wrOp v o .olatt (olatt.get o)) ++ [.keyOn v]

/-- `gateOff(voiceIndex)` (R225). -/
def gateOff (v : VoiceNum) : List Instr := [.keyOff v]

/-- `setController(voiceIndex, number, value)` (R226). -/
def setController (v : VoiceNum) (n : Addr) (x : BitVec 7) : List Instr := [.setCtrl v n x]

/-- `setPitchBend(voiceIndex, value)` (R227). -/
def setPitchBend (v : VoiceNum) (x : BitVec 14) : List Instr := [.setPbend v x]

/-- One turn of the loop of `sample()`: the strobe of voice `v` and the two reads the host makes of
it (R228). -/
def sampleOne (v : VoiceNum) : List Instr :=
  [.sample v, .rdReg v (statusRegAddr .out), .rdReg v (statusRegAddr .complete)]

/-- `sample()`: a turn for every sounding voice, in the order of the list (R89, R228). Which voices
sound and the scaling of the sum of the `OUT` values are the host's (R4, R232, R233). -/
def sampleCall : List VoiceNum → List Instr
  | [] => []
  | v :: rest => sampleOne v ++ sampleCall rest

/-- `tick()`: `TICK v` for every voice. R229 allows any order; the model takes the rising one
(DESIGN CHOICE, safe: notes/assumptions/11.md). -/
def tickCall (c : Cfg) : List Instr :=
  (List.range c.nvoice).map fun v => .tick (BitVec.ofNat 4 v)

/-- The detune the host writes for a raw value 0 to 15: `(raw - 7) mod 16` (R223). -/
def fwDetune (raw : Nat) : Data := BitVec.ofNat 16 ((raw + 9) % 16)

/-- R210's example note table, twelve-tone equal temperament with A4 = 440 Hz (PRESUMED: general
knowledge, an example of a host function that no rule uses; notes/assumptions/12.md). -/
def exampleVpitch (note : Nat) : Int := 37675 + (((note : Int) - 69) * 4096 + 6) / 12

end Sys2Proof.Machine
end

