-- ==== Sys2Proof/Safety.lean ====
section
/-! DEFINITION. What holds of every engine state that a run can reach: the widths and value sets of
R252 of 60_exceptions.md, in the terms the claims use. Stage fields and fixed-width registers are
within their sets by their types; the checks here are for the fields whose width is an OPEN
parameter, the signed router registers, `PEG_CUR` and `SEQ`. -/

namespace Sys2Proof.Machine

/-- The operator record fits the configuration's widths (R24, R35, R36). -/
def OpRec.wf (c : Cfg) (p : OpRec) : Bool :=
  p.egRate.toList.all (· < 2 ^ c.egCodeW) && p.egLevel.toList.all (· < 2 ^ c.egCodeW) &&
    p.phase < 2 ^ c.phaseW && p.egCur < 2 ^ c.egW

/-- An operator output: a magnitude of `OUT_MAG_W` bits and a sign (R149). -/
def outputRange (x : Int) : Bool := -16383 ≤ x && x ≤ 16383

/-- The voice record fits the configuration's widths (R39, R252); `PEG_CUR` is in 0 to 0x7F80
(R192) and `SEQ` is 0 between commands (R30). -/
def Voice.wf (c : Cfg) (V : Voice) : Bool :=
  V.ops.toList.all (OpRec.wf c) && fitsSigned c.accW V.mod && fitsSigned c.accW V.mem &&
    fitsSigned c.accW V.sum && fitsSigned c.accW V.out && outputRange V.fb1 && outputRange V.fb2 &&
    V.pegCur.toNat ≤ 0x7F80 && V.seq == 0

/-- The engine state is well-formed: an accepted configuration (R6), `NVOICE` voice records (R20),
each within its widths (R252). -/
def State.wf (s : State) : Bool :=
  s.cfg.wf && s.voices.length == s.cfg.nvoice && s.voices.all (Voice.wf s.cfg)

/-- The widths of the attenuation path are the defaults of R6. -/
def defaultAttWidths (c : Cfg) : Bool := c.egW == 24 && c.attW == 12 && c.logW == 14

/-- A voice that no register write has reached, as far as its loudness goes: every level code is the
silent one, every attenuation is at or above the largest target, and the router and `OUT` hold 0
(R262). -/
def Voice.unprogrammed (V : Voice) : Bool :=
  V.ops.toList.all (fun p => p.egLevel == PerSeg.const 63 && 0xFF0000 ≤ p.egCur) &&
    V.mod == 0 && V.mem == 0 && V.sum == 0 && V.fb1 == 0 && V.fb2 == 0 && V.out == 0

/-- Every voice is unprogrammed. -/
def State.unprogrammed (s : State) : Bool := s.voices.all Voice.unprogrammed

/-- The router registers are within the bounds that R162 gives for the default ROM: no accumulator
has wrapped. -/
def Voice.noWrap (V : Voice) : Bool :=
  -49149 ≤ V.mem && V.mem ≤ 49149 && -98298 ≤ V.sum && V.sum ≤ 98298 &&
    -98298 ≤ V.out && V.out ≤ 98298 && outputRange V.fb1 && outputRange V.fb2

/-- The command is `WR_REG`. -/
def isWriteCmd (i : Instr) : Bool := i.opcode == .wrReg

/-- The command is `RD_REG`. -/
def isReadCmd (i : Instr) : Bool := i.opcode == .rdReg

/-- The voice a command names, where it names one (R82). -/
def cmdVoice : Instr → Option VoiceNum
  | .wrReg v _ _ => some v
  | .rdReg v _ => some v
  | .keyOn v => some v
  | .keyOff v => some v
  | .sample v => some v
  | .tick v => some v
  | .setCtrl v _ _ => some v
  | .setPbend v _ => some v
  | .nop => none
  | .rsvd9 => none
  | .rsvdA => none
  | .rsvdB => none
  | .rsvdC => none
  | .rsvdD => none
  | .rsvdE => none
  | .rsvdF => none

/-- The state with every `RS` register cleared: two states equal under it differ in `RS` at most
(R133). -/
def eraseRs (s : State) : State :=
  { s with voices := s.voices.map fun V => { V with ops := V.ops.map fun p => { p with rs := 0 } } }

/-- The address is that of an `RS` register. -/
def isRsAddr (a : Addr) : Bool := OpNum.all.any fun o => a == opRegAddr o .rs

/-- The bit pattern an operator register holds, as a number (R7, R21). -/
def opRegVal (p : OpRec) : OpReg → Nat
  | .pitch => p.pitch.toNat
  | .mode => p.mode.toNat
  | .detune => p.detune.toNat
  | .olatt => p.olatt.toNat
  | .ams => p.ams.toNat
  | .rs => p.rs.toNat
  | .egRate s => p.egRate.get s
  | .egLevel s => p.egLevel.get s

/-- The bit pattern a voice register holds, as a number (R7, R32). -/
def voiceRegVal (V : Voice) : VoiceReg → Nat
  | .alg => V.alg.toNat
  | .fbl => V.fbl.toNat
  | .vpitch => V.vpitch.toNat
  | .pbend => V.pbend.toNat
  | .pms => V.pms.toNat
  | .pegRate s => (V.pegRate.get s).toNat
  | .pegLevel s => (V.pegLevel.get s).toNat
  | .lfoInc => V.lfoInc.toNat
  | .lfoDelayInc => V.lfoDelayInc.toNat
  | .lfoFadeInc => V.lfoFadeInc.toNat
  | .lfoPmd => V.lfoPmd.toNat
  | .lfoAmd => V.lfoAmd.toNat
  | .lfoWave => V.lfoWave.toNat
  | .lfoSync => V.lfoSync.toNat
  | .mixRange k => (V.mixRange.get k).toNat
  | .mixAssign k => (V.mixAssign.get k).toNat
  | .mixRaw k => (V.mixRaw.get k).toNat

/-- Every voice is within the bounds of R162. -/
def State.noWrap (s : State) : Bool := s.voices.all Voice.noWrap

end Sys2Proof.Machine
end

