-- ==== Sys2Proof/Certificates/Slice0/Obligations.lean ====
section
/-! DEFINITION. The statements about the engine. Each docstring names the rule it formalises or
rests on. `voiceAt s v = some V` says that the voice number `v` is below `NVOICE` and `V` is its
record; `putVoice s v W` is the state `s` with that one record replaced by `W`. -/

section

open Sys2Proof Sys2Proof.Machine

/-! ### The command word -/

/-- Decoding the encoding of a command gives the command, for every operand value (R81 to R84). -/
def Obligations.DecodeOfEncode : Prop :=
  ∀ i : Instr, i.wf = true → decode (encode i) = i

/-- The field layout of R81 and the opcode map of R82, complete, with the fields each command uses
and those it ignores. -/
def Obligations.CommandWordFormat : Prop :=
  (∀ w : Word,
    (fieldOpc w).toNat = w.toNat / 2 ^ 28 ∧ (fieldV w).toNat = w.toNat / 2 ^ 24 % 16 ∧
    (fieldA w).toNat = w.toNat / 2 ^ 16 % 256 ∧ (fieldD w).toNat = w.toNat % 65536 ∧
    enc (fieldOpc w) (fieldV w) (fieldA w) (fieldD w) = w) ∧
  ∀ (v : VoiceNum) (a : Addr) (d : Data),
    decode (enc 0x0 v a d) = .nop ∧ decode (enc 0x1 v a d) = .wrReg v a d ∧
    decode (enc 0x2 v a d) = .rdReg v a ∧ decode (enc 0x3 v a d) = .keyOn v ∧
    decode (enc 0x4 v a d) = .keyOff v ∧ decode (enc 0x5 v a d) = .sample v ∧
    decode (enc 0x6 v a d) = .tick v ∧
    decode (enc 0x7 v a d) = .setCtrl v a (BitVec.ofNat 7 (d.toNat % 128)) ∧
    decode (enc 0x8 v a d) = .setPbend v (BitVec.ofNat 14 (d.toNat % 16384)) ∧
    decode (enc 0x9 v a d) = .rsvd9 ∧ decode (enc 0xA v a d) = .rsvdA ∧
    decode (enc 0xB v a d) = .rsvdB ∧ decode (enc 0xC v a d) = .rsvdC ∧
    decode (enc 0xD v a d) = .rsvdD ∧ decode (enc 0xE v a d) = .rsvdE ∧
    decode (enc 0xF v a d) = .rsvdF

/-- Every word matches exactly one row of the opcode table, and the decoder reads that row (R87). -/
def Obligations.EveryWordMatchesOneRow : Prop :=
  (∀ r ∈ opcodeTable, r.mask = 0xF0000000 ∧ r.pattern = enc (opcodeBits r.opcode) 0 0 0) ∧
  ∀ w : Word, (opcodeTable.filter fun r => r.hits w).map OpcodeRow.opcode = [(decode w).opcode]

/-- The encoding examples of R90. -/
def Obligations.DecoderReadsTheSpecWords : Prop :=
  decode 0x00000000 = .nop ∧ decode 0x1060001F = .wrReg 0 (voiceRegAddr .alg) 31 ∧
  decode 0x112E002A = .wrReg 1 (opRegAddr .op3 (.egLevel .decay2)) 0x2A ∧
  decode 0x20E00000 = .rdReg 0 (statusRegAddr .out) ∧ decode 0x31000000 = .keyOn 1 ∧
  decode 0x41000000 = .keyOff 1 ∧ decode 0x50000000 = .sample 0 ∧
  decode 0x60000000 = .tick 0 ∧ decode 0x7001007F = .setCtrl 0 1 127 ∧
  decode 0x70800040 = .setCtrl 0 128 64 ∧ decode 0x80002000 = .setPbend 0 0x2000

/-- One step takes the next word of the port, decodes it and executes it; an idle port is the word
0, a `NOP`; every step has a next state (R114, R65, R100, R10; the port is the model's,
notes/assumptions/1.md). -/
def Obligations.StepRunsTheDecodedCommand : Prop :=
  (∀ (s : State) (w : Word) (rest : List Word), s.port = w :: rest →
    (decode w).wf = true ∧ step s = exec (decode w) { s with port := rest }) ∧
  (∀ s : State, s.port = [] → step s = .next s) ∧
  ∀ s : State, ∃ t, step s = .next t

/-- Every word in every state has exactly one next state and one output, and so has every command:
no fault, no refusal (R10). -/
def Obligations.StepIsTotal : Prop :=
  (∀ (s : State) (w : Word), ∃ t, exec (decode w) s = .next t ∧
    ∀ t', exec (decode w) s = .next t' → t' = t ∧ t'.dout = t.dout) ∧
  ∀ (i : Instr) (s : State), ∃ t, exec i s = .next t

/-- `NOP` changes nothing, whatever its other fields hold; the all-zero word is `NOP` (R100). -/
def Obligations.NopChangesNothing : Prop :=
  (∀ (v : VoiceNum) (a : Addr) (d : Data), decode (enc 0x0 v a d) = .nop) ∧
  decode 0x00000000 = .nop ∧ decode 0x0FFFFFFF = .nop ∧
  ∀ s : State, exec .nop s = .next s

/-- The seven reserved opcodes change nothing, whatever their other fields hold (R111). -/
def Obligations.ReservedOpcodesChangeNothing : Prop :=
  (∀ s : State,
    exec .rsvd9 s = .next s ∧ exec .rsvdA s = .next s ∧ exec .rsvdB s = .next s ∧
    exec .rsvdC s = .next s ∧ exec .rsvdD s = .next s ∧ exec .rsvdE s = .next s ∧
    exec .rsvdF s = .next s) ∧
  ∀ (opc : OpcBits) (v : VoiceNum) (a : Addr) (d : Data) (s : State), 9 ≤ opc.toNat →
    exec (decode (enc opc v a d)) s = .next s

/-- A word whose voice number is not below `NVOICE` is ignored, whatever its opcode (R85). -/
def Obligations.OutOfRangeVoiceIgnored : Prop :=
  ∀ (s : State) (w : Word), s.cfg.nvoice ≤ (fieldV w).toNat → exec (decode w) s = .next s

/-! ### Registers -/

/-- The complete register map (R42, the union of the tables of R21, R32 and R43): the numeric address
of every register, which addresses are operator, voice and status registers and which are reserved;
a reserved address ignores writes and reads 0, a read-only address ignores writes. -/
def Obligations.RegisterMapIsComplete : Prop :=
  (∀ block ∈ [((0x00 : Addr), OpNum.op1), (0x10, .op2), (0x20, .op3), (0x30, .op4), (0x40, .op5),
      (0x50, .op6)],
    ∀ row ∈ [((0x0 : Addr), OpReg.pitch), (0x1, .mode), (0x2, .detune), (0x3, .olatt), (0x4, .ams),
        (0x5, .rs), (0x8, .egRate .attack), (0x9, .egRate .decay1), (0xA, .egRate .decay2),
        (0xB, .egRate .release), (0xC, .egLevel .attack), (0xD, .egLevel .decay1),
        (0xE, .egLevel .decay2), (0xF, .egLevel .release)],
      regAt (block.1 + row.1) = .op block.2 row.2 ∧
        opRegAddr block.2 row.2 = block.1 + row.1) ∧
  (∀ row ∈ [((0x60 : Addr), VoiceReg.alg), (0x61, .fbl), (0x62, .vpitch), (0x63, .pbend),
      (0x64, .pms), (0x68, .pegRate .attack), (0x69, .pegRate .decay1), (0x6A, .pegRate .decay2),
      (0x6B, .pegRate .release), (0x6C, .pegLevel .attack), (0x6D, .pegLevel .decay1),
      (0x6E, .pegLevel .decay2), (0x6F, .pegLevel .release), (0x70, .lfoInc), (0x71, .lfoDelayInc),
      (0x72, .lfoFadeInc), (0x73, .lfoPmd), (0x74, .lfoAmd), (0x75, .lfoWave), (0x76, .lfoSync),
      (0x78, .mixRange .modWheel), (0x79, .mixRange .foot), (0x7A, .mixRange .breath),
      (0x7B, .mixRange .afterTouch), (0x7C, .mixAssign .modWheel), (0x7D, .mixAssign .foot),
      (0x7E, .mixAssign .breath), (0x7F, .mixAssign .afterTouch), (0x80, .mixRaw .modWheel),
      (0x81, .mixRaw .foot), (0x82, .mixRaw .breath), (0x83, .mixRaw .afterTouch)],
    regAt row.1 = .voice row.2 ∧ voiceRegAddr row.2 = row.1) ∧
  (∀ row ∈ [((0xE0 : Addr), StatusReg.out), (0xE1, .complete), (0xE2, .lfoPout), (0xE3, .lfoAout),
      (0xE4, .lfoFade), (0xE5, .pegOut), (0xE8, .egAtt .op1), (0xE9, .egAtt .op2),
      (0xEA, .egAtt .op3), (0xEB, .egAtt .op4), (0xEC, .egAtt .op5), (0xED, .egAtt .op6),
      (0xF0, .egStage .op1), (0xF1, .egStage .op2), (0xF2, .egStage .op3), (0xF3, .egStage .op4),
      (0xF4, .egStage .op5), (0xF5, .egStage .op6)],
    regAt row.1 = .status row.2 ∧ statusRegAddr row.2 = row.1) ∧
  (∀ a : Addr,
    (a.toNat ≤ 0x5F → a.toNat % 16 ≠ 6 → a.toNat % 16 ≠ 7 →
      ∃ o r, regAt a = .op o r ∧ a = opRegAddr o r) ∧
    (0x60 ≤ a.toNat → a.toNat ≤ 0x83 →
      ¬ (0x65 ≤ a.toNat ∧ a.toNat ≤ 0x67) → a.toNat ≠ 0x77 →
      ∃ r, regAt a = .voice r ∧ a = voiceRegAddr r) ∧
    (0xE0 ≤ a.toNat → a.toNat ≤ 0xE5 → ∃ r, regAt a = .status r ∧ a = statusRegAddr r) ∧
    (0xE8 ≤ a.toNat → a.toNat ≤ 0xED →
      ∃ o, regAt a = .status (.egAtt o) ∧ a.toNat = 0xE8 + (o.num - 1)) ∧
    (0xF0 ≤ a.toNat → a.toNat ≤ 0xF5 →
      ∃ o, regAt a = .status (.egStage o) ∧ a.toNat = 0xF0 + (o.num - 1)) ∧
    ((a.toNat ≤ 0x5F ∧ (a.toNat % 16 = 6 ∨ a.toNat % 16 = 7)) ∨
      (0x65 ≤ a.toNat ∧ a.toNat ≤ 0x67) ∨ a.toNat = 0x77 ∨
      (0x84 ≤ a.toNat ∧ a.toNat ≤ 0xDF) ∨ a.toNat = 0xE6 ∨ a.toNat = 0xE7 ∨
      a.toNat = 0xEE ∨ a.toNat = 0xEF ∨ 0xF6 ≤ a.toNat → regAt a = .reserved)) ∧
  ∀ (s : State) (v : VoiceNum) (V : Voice) (a : Addr), voiceAt s v = some V →
    (regAt a = .reserved →
      (∀ d, exec (.wrReg v a d) s = .next s) ∧ exec (.rdReg v a) s = .next (putDout s 0)) ∧
    ∀ r, regAt a = .status r → ∀ d, exec (.wrReg v a d) s = .next s

/-- `WR_REG` to an operator register stores the data reduced to the register's width; every other
register of the operator, its phase and its envelope, and everything else in the machine stay
(R101, R21, R83). -/
def Obligations.WriteOperatorRegister : Prop :=
  ∀ (s : State) (v : VoiceNum) (V : Voice) (o : OpNum) (r : OpReg) (d : Data),
    voiceAt s v = some V →
    ∃ p : OpRec,
      exec (.wrReg v (opRegAddr o r) d) s = .next (putVoice s v { V with ops := V.ops.set o p }) ∧
      opRegVal p r = d.toNat % 2 ^ opRegWidth s.cfg r ∧
      (∀ r', r' ≠ r → opRegVal p r' = opRegVal (V.ops.get o) r') ∧
      p.phase = (V.ops.get o).phase ∧ p.egCur = (V.ops.get o).egCur ∧
      p.egStage = (V.ops.get o).egStage

/-- `WR_REG` to a voice register other than `ALG` stores the data reduced to the register's width;
every other register and all runtime state stay (R101, R32, R83). -/
def Obligations.WriteVoiceRegister : Prop :=
  ∀ (s : State) (v : VoiceNum) (V : Voice) (r : VoiceReg) (d : Data),
    voiceAt s v = some V → r ≠ .alg →
    ∃ W : Voice,
      exec (.wrReg v (voiceRegAddr r) d) s = .next (putVoice s v W) ∧
      voiceRegVal W r = d.toNat % 2 ^ voiceRegWidth r ∧
      (∀ r', r' ≠ r → voiceRegVal W r' = voiceRegVal V r') ∧
      W = { V with
            fbl := W.fbl, vpitch := W.vpitch, pbend := W.pbend, pms := W.pms
            pegRate := W.pegRate, pegLevel := W.pegLevel, lfoInc := W.lfoInc
            lfoDelayInc := W.lfoDelayInc, lfoFadeInc := W.lfoFadeInc, lfoPmd := W.lfoPmd
            lfoAmd := W.lfoAmd, lfoWave := W.lfoWave, lfoSync := W.lfoSync
            mixRange := W.mixRange, mixAssign := W.mixAssign, mixRaw := W.mixRaw }

/-- `WR_REG` to `ALG` stores 0 to 31 and ignores anything larger (R33, R101). -/
def Obligations.WriteAlgorithmRegister : Prop :=
  ∀ (s : State) (v : VoiceNum) (V : Voice) (d : Data), voiceAt s v = some V →
    (d.toNat ≤ 31 → ∃ x : BitVec 5, x.toNat = d.toNat ∧
      exec (.wrReg v (voiceRegAddr .alg) d) s = .next (putVoice s v { V with alg := x })) ∧
    (31 < d.toNat → exec (.wrReg v (voiceRegAddr .alg) d) s = .next s)

/-- Writing the value a register already holds changes nothing, at every address (R101). -/
def Obligations.WriteHeldValueChangesNothing : Prop :=
  ∀ (s : State) (v : VoiceNum) (V : Voice) (a : Addr) (d : Data),
    s.wf = true → voiceAt s v = some V → d.toNat = (regRead s.cfg V a).toNat % 65536 →
    exec (.wrReg v a d) s = .next s

/-- `RD_REG` of a writable register puts its stored bit pattern, zero-extended, on `DOUT` and
changes nothing else (R104). -/
def Obligations.ReadStoredPattern : Prop :=
  ∀ (s : State) (v : VoiceNum) (V : Voice), s.wf = true → voiceAt s v = some V →
    (∀ o r, ∃ x : Word, exec (.rdReg v (opRegAddr o r)) s = .next (putDout s x) ∧
      x.toNat = opRegVal (V.ops.get o) r) ∧
    ∀ r, ∃ x : Word, exec (.rdReg v (voiceRegAddr r)) s = .next (putDout s x) ∧
      x.toNat = voiceRegVal V r

/-- `RD_REG` of a status address: `OUT`, `LFO_POUT`, `PEG_OUT` as signed values, the others
unsigned; reading changes nothing but `DOUT` (R43, R104; the width of `EG_CUR` and of its visible
part are parameters, notes/assumptions/6.md). -/
def Obligations.ReadStatusValues : Prop :=
  ∀ (s : State) (v : VoiceNum) (V : Voice) (r : StatusReg), s.wf = true → voiceAt s v = some V →
    ∃ x : Word, exec (.rdReg v (statusRegAddr r)) s = .next (putDout s x) ∧
      match r with
      | .out => x.toInt = V.out
      | .complete =>
        ((∀ o, (V.ops.get o).egStage.code = 5) → x.toNat = 1) ∧
        ((∃ o, (V.ops.get o).egStage.code ≠ 5) → x.toNat = 0)
      | .lfoPout => x.toInt = V.lfoPout.toInt
      | .lfoAout => x.toNat = V.lfoAout.toNat
      | .lfoFade => x.toNat = V.lfoFadeAcc.toNat / 256
      | .pegOut => x.toInt = (V.pegCur.toNat : Int) - 0x4000
      | .egAtt o => x.toNat = (V.ops.get o).egCur / 2 ^ (s.cfg.egW - s.cfg.attW)
      | .egStage o => x.toNat = (V.ops.get o).egStage.code

/-! ### Gates and controllers -/

/-- `KEY_ON` (R105): every envelope and the pitch envelope to Attack, the LFO's delay and fade
restarted, the LFO phase set only under `LFO_SYNC`; everything else stays. -/
def Obligations.KeyOnGatesTheVoice : Prop :=
  (∀ (v : VoiceNum) (a : Addr) (d : Data), decode (enc 0x3 v a d) = .keyOn v) ∧
  (∀ (s : State) (v : VoiceNum), s.cfg.nvoice ≤ v.toNat → exec (.keyOn v) s = .next s) ∧
  ∀ (s : State) (v : VoiceNum) (V : Voice), voiceAt s v = some V →
    ∃ W : Voice, exec (.keyOn v) s = .next (putVoice s v W) ∧
      (∀ o, W.ops.get o = { V.ops.get o with egStage := .attack }) ∧
      W = { V with
            ops := W.ops, pegStage := .attack, lfoDelayAcc := 0, lfoFadeAcc := 0, lfoStage := .delay
            lfoPhase := if V.lfoSync = 1 then 0xFFFF else V.lfoPhase }

/-- `KEY_OFF` (R106): every stage below Release becomes Release, nothing else changes, and a second
`KEY_OFF` is a no-op. -/
def Obligations.KeyOffReleasesTheVoice : Prop :=
  (∀ (v : VoiceNum) (a : Addr) (d : Data), decode (enc 0x4 v a d) = .keyOff v) ∧
  (∀ (s : State) (v : VoiceNum), s.cfg.nvoice ≤ v.toNat → exec (.keyOff v) s = .next s) ∧
  ∀ (s : State) (v : VoiceNum) (V : Voice), voiceAt s v = some V →
    ∃ W : Voice, exec (.keyOff v) s = .next (putVoice s v W) ∧
      (∀ o, W.ops.get o = { V.ops.get o with
        egStage := if (V.ops.get o).egStage.code < 4 then .release else (V.ops.get o).egStage }) ∧
      W = { V with
            ops := W.ops
            pegStage := if V.pegStage.code < 4 then .release else V.pegStage } ∧
      exec (.keyOff v) (putVoice s v W) = .next (putVoice s v W)

/-- `SET_CTRL` (R107): controllers 1, 4, 2 and `AT_NUM` write one raw value each, 64, 65 and every
other number change nothing; writing the raw register has the same effect. -/
def Obligations.SetControllerWritesOneSource : Prop :=
  (∀ (v : VoiceNum) (n : Addr) (d : Data),
    decode (enc 0x7 v n d) = .setCtrl v n (BitVec.ofNat 7 (d.toNat % 128))) ∧
  (∀ (s : State) (v : VoiceNum) (n : Addr) (x : BitVec 7), s.cfg.nvoice ≤ v.toNat →
    exec (.setCtrl v n x) s = .next s) ∧
  ∀ (s : State) (v : VoiceNum) (V : Voice) (n : Addr) (x : BitVec 7), voiceAt s v = some V →
    (∀ k : Ctrl,
      (k = .modWheel ∧ n = 1) ∨ (k = .foot ∧ n = 4) ∨ (k = .breath ∧ n = 2) ∨
        (k = .afterTouch ∧ n.toNat = s.cfg.atNum ∧ n ∉ [1, 4, 2, 64, 65]) →
      exec (.setCtrl v n x) s = .next (putVoice s v { V with mixRaw := V.mixRaw.set k x }) ∧
      exec (.setCtrl v n x) s = exec (.wrReg v (voiceRegAddr (.mixRaw k)) (x.setWidth 16)) s) ∧
    (n ∉ [1, 4, 2] → n.toNat ≠ s.cfg.atNum → exec (.setCtrl v n x) s = .next s)

/-- `SET_PBEND` (R108), with the same effect as `WR_REG` to `PBEND`; the centre adds nothing to the
pitch, full bend 1023 units at the default shift. -/
def Obligations.SetPitchBendWritesTheBend : Prop :=
  (∀ (v : VoiceNum) (a : Addr) (d : Data),
    decode (enc 0x8 v a d) = .setPbend v (BitVec.ofNat 14 (d.toNat % 16384))) ∧
  (∀ (s : State) (v : VoiceNum) (x : BitVec 14), s.cfg.nvoice ≤ v.toNat →
    exec (.setPbend v x) s = .next s) ∧
  (∀ (s : State) (v : VoiceNum) (V : Voice) (x : BitVec 14), voiceAt s v = some V →
    exec (.setPbend v x) s = .next (putVoice s v { V with pbend := x })) ∧
  (∀ (s : State) (v : VoiceNum) (a : Addr) (d : Data),
    exec (decode (enc 0x8 v a d)) s = exec (.wrReg v (voiceRegAddr .pbend) d) s) ∧
  ∀ (c : Cfg) (V : Voice),
    pbOff c { V with pbend := 0x2000 } = 0 ∧
    (c.pbShift = 3 → pbOff c { V with pbend := 0x3FFF } = 1023)

/-- The LFO at key-on (R171): with `LFO_SYNC` the next tick leaves the phase at `LFO_INC - 1` and
steps the generator when `LFO_INC >= 1`; without it the phase runs on; the outputs and the
generator keep their values until that tick, and `KEY_OFF` leaves the whole LFO alone. -/
def Obligations.KeyOnRestartsTheLfo : Prop :=
  ∀ (s : State) (v : VoiceNum) (V : Voice), voiceAt s v = some V →
    (∃ W : Voice, exec (.keyOn v) s = .next (putVoice s v W) ∧
      W.lfoDelayAcc = 0 ∧ W.lfoFadeAcc = 0 ∧ W.lfoStage = .delay ∧ W.lfoPout = V.lfoPout ∧
      W.lfoAout = V.lfoAout ∧ W.lfoRand = V.lfoRand ∧
      (V.lfoSync = 1 → W.lfoPhase = 0xFFFF) ∧ (V.lfoSync ≠ 1 → W.lfoPhase = V.lfoPhase)) ∧
    (∃ W : Voice, runCmds [.keyOn v, .tick v] s = .next (putVoice s v W) ∧
      (V.lfoSync = 1 →
        W.lfoPhase = V.lfoInc - 1 ∧
        W.lfoRand.toNat =
          if 1 ≤ V.lfoInc.toNat then (V.lfoRand.toNat * s.cfg.lcgA + s.cfg.lcgC) % 256
          else V.lfoRand.toNat) ∧
      (V.lfoSync ≠ 1 → W.lfoPhase = V.lfoPhase + V.lfoInc)) ∧
    ∃ W : Voice, exec (.keyOff v) s = .next (putVoice s v W) ∧
      W = { V with ops := W.ops, pegStage := W.pegStage }

/-! ### SAMPLE -/

/-- One `SAMPLE` clocks each of the six envelopes once and advances each of the six phases once by
its increment, whatever the algorithm; it writes the router registers and `OUT`, leaves `SEQ` 0 and
changes nothing else (R109, R143, R136; the widths are parameters, notes/assumptions/6.md). -/
def Obligations.SampleClocksEveryOperatorOnce : Prop :=
  ∀ (s : State) (v : VoiceNum) (V : Voice), voiceAt s v = some V →
    ∃ W : Voice, exec (.sample v) s = .next (putVoice s v W) ∧
      (∀ o, W.ops.get o = { egClock s.cfg (V.ops.get o) with
        phase := ((V.ops.get o).phase + pinc s.cfg V o) % 2 ^ s.cfg.phaseW }) ∧
      W.out = W.sum ∧
      W = { V with
            ops := W.ops, mod := W.mod, mem := W.mem, sum := W.sum, fb1 := W.fb1, fb2 := W.fb2
            out := W.out, seq := 0 }

/-- `SAMPLE` clears the sum, evaluates the operators 6 down to 1, each from the voice the one before
left, and latches the sum (R109, R113, R30). -/
def Obligations.SampleEvaluatesSixDownToOne : Prop :=
  ∀ (s : State) (v : VoiceNum) (V : Voice), voiceAt s v = some V →
    ∃ v6 v5 v4 v3 v2 v1 : Voice,
      v6 = opEval s.cfg { V with sum := 0, seq := 6 } .op6 ∧
      v5 = opEval s.cfg { v6 with seq := 5 } .op5 ∧
      v4 = opEval s.cfg { v5 with seq := 4 } .op4 ∧
      v3 = opEval s.cfg { v4 with seq := 3 } .op3 ∧
      v2 = opEval s.cfg { v3 with seq := 2 } .op2 ∧
      v1 = opEval s.cfg { v2 with seq := 1 } .op1 ∧
      exec (.sample v) s = .next (putVoice s v { v1 with out := v1.sum, seq := 0 })

/-- One operator evaluation, line by line (R142 with R145 to R153): the entry of operator `o` in the
row of `ALG_ROM` that `ALG` selects, the clocked envelope and the advanced phase, the phase index, log-sine, attenuation sum, exponential and sign, then `MEM`,
`SUM`, the feedback registers, and last `MOD`, which sees them updated (widths and shifts are
parameters, notes/assumptions/6.md). -/
def Obligations.OneOperatorEvaluationInOrder : Prop :=
  ∀ (c : Cfg) (V : Voice) (o : OpNum), c.wf = true →
    ∃ (row : PerOp AlgEntry) (phi la mag : Nat) (out : Int),
      c.algRom[V.alg.toNat]? = some row ∧
      let e := row.get o
      let p := egClock c (V.ops.get o)
      let phase := ((V.ops.get o).phase + pinc c V o) % 2 ^ c.phaseW
      let h := phi % 2048
      let W := opEval c V o
      (phi : Int) = ((phase / 2 ^ (c.phaseW - 12) : Nat) + V.mod) % 4096 ∧
      la = min (2 ^ c.logW - 1)
        ((if h < 1024 then tbl c.lsq h else tbl c.lsq (2047 - h)) +
          p.egCur / 2 ^ (c.egW - c.attW) * 4 + amAtt c V o * 64 + tbl c.compAtt e.com.val) ∧
      mag = tbl c.expm (la % 1024) / 2 ^ (la / 1024) ∧
      out = (if phi < 2048 then (mag : Int) else -(mag : Int)) ∧
      W = { V with
            ops := V.ops.set o { p with phase := phase }
            mem := if e.mw then swrap c.accW ((if e.mr then V.mem else 0) + out) else V.mem
            sum := if e.car then swrap c.accW (V.sum + out) else V.sum
            fb1 := if e.fben then out else V.fb1
            fb2 := if e.fben then V.fb1 else V.fb2
            mod := swrap c.accW
              (match e.sel with
              | .zero => 0
              | .own => out / 2 ^ c.modShift
              | .sum => W.sum / 2 ^ c.modShift
              | .mem => W.mem / 2 ^ c.modShift
              | .fb1 => W.fb1 / 2 ^ c.modShift
              | .fbPair =>
                if V.fbl = 0 then 0 else (W.fb1 + W.fb2) / 2 ^ (c.fbBase - V.fbl.toNat)
              | .reserved6 => 0
              | .reserved7 => 0) }

/-- The log-sine table is reflected exactly, and the second half cycle is the first with its sign
changed (R146, R149). -/
def Obligations.WaveIsReflected : Prop :=
  ∀ (c : Cfg) (h att am : Nat) (com : Fin 8), c.wf = true → h < 2048 →
    logSin c h = logSin c (2047 - h) ∧
    toneOut c (2047 - h) att am com = toneOut c h att am com ∧
    toneOut c (2048 + h) att am com = -toneOut c h att am com

/-- `EXP` is non-increasing when the mantissa table spans at most one octave, and 0 from 14336 up;
an operator output is in -16383 to +16383 (R148, R149). -/
def Obligations.ExponentialFallsToZero : Prop :=
  (∀ (c : Cfg) (a b : Nat), c.wf = true → tbl c.expm 0 / 2 ≤ tbl c.expm 1023 → a ≤ b →
    expLin c b ≤ expLin c a) ∧
  (∀ (c : Cfg) (la : Nat), c.wf = true → 14336 ≤ la → expLin c la = 0) ∧
  ∀ (c : Cfg) (V : Voice) (o : OpNum), c.wf = true →
    -16383 ≤ operatorOut c V o ∧ operatorOut c V o ≤ 16383

/-- Under algorithm 32 with no feedback the sample is the sum of the six outputs that the operators
give unmodulated, and no modulation is left for the next sample (R160; the ROM row is the spec's
default, notes/assumptions/5.md). -/
def Obligations.Algorithm32IsAdditive : Prop :=
  ∀ (s : State) (v : VoiceNum) (V : Voice),
    s.cfg.wf = true → s.cfg.accW = 18 → s.cfg.algRom = defaultAlgRom → voiceAt s v = some V →
    V.alg = 31 → V.fbl = 0 → V.mod = 0 →
    ∃ W : Voice, exec (.sample v) s = .next (putVoice s v W) ∧ W.mod = 0 ∧
      W.alg = 31 ∧ W.fbl = 0 ∧
      W.out = (OpNum.all.map fun o =>
        toneOut s.cfg (phaseIndex s.cfg (phaseAfter s.cfg V o) 0)
          (egAtt s.cfg (egClock s.cfg (V.ops.get o))) (amAtt s.cfg V o) 5).sum

/-! ### The envelope -/

/-- One envelope clock (R128 with R124 and R125): the target, the increment, the clamped move and
the single stage advance; no register and no phase changes (widths are parameters,
notes/assumptions/6.md). -/
def Obligations.EnvelopeClockMovesToTarget : Prop :=
  ∀ (c : Cfg) (p : OpRec),
    ∃ (seg : Seg) (tgt inc cur : Nat) (st : EgStage),
      (seg.num = match p.egStage with
        | .attack => 0 | .decay1 => 1 | .decay2 => 2 | .sustain => 2 | .release => 3 | .ended => 3) ∧
      tgt = min 255 (att8 (p.egLevel.get seg) + p.olatt.toNat) * 2 ^ (c.egW - 8) ∧
      inc = (if p.egStage = .sustain ∨ p.egStage = .ended then 0
        else tbl c.egInc (p.egRate.get seg)) ∧
      cur = (if p.egCur < tgt then min (p.egCur + inc) tgt
        else if tgt < p.egCur then max (p.egCur - inc) tgt else p.egCur) ∧
      st.code = (if cur = tgt ∧ p.egStage ≠ .sustain ∧ p.egStage ≠ .ended then p.egStage.code + 1
        else p.egStage.code) ∧
      egClock c p = { p with egCur := cur, egStage := st }

/-- `att8` replicates bits, ends at 0 and 255, and rises by 4 or 5 at each code; the target is
non-decreasing in the level code and in `OLATT` (R123, R135). -/
def Obligations.LevelsAreMonotone : Prop :=
  (∀ a, a < 64 → att8 a = (a * 4 + a / 16) % 256) ∧ att8 0 = 0 ∧ att8 63 = 255 ∧
  (∀ a, a < 63 → att8 (a + 1) = att8 a + 4 ∨ att8 (a + 1) = att8 a + 5) ∧
  ∀ (c : Cfg) (p q : OpRec) (st : EgStage),
    q.egLevel.get (stageSeg st) < 64 → p.egLevel.get (stageSeg st) ≤ q.egLevel.get (stageSeg st) →
    p.olatt.toNat ≤ q.olatt.toNat → egTarget c p st ≤ egTarget c q st

/-- When Decay2 ends the attenuation is the Decay2 target exactly, and in Sustain no command but
`KEY_ON` and `KEY_OFF` of that voice moves it, register writes included (R134). -/
def Obligations.SustainHolds : Prop :=
  (∀ (c : Cfg) (p : OpRec), p.egStage = .decay2 → (egClock c p).egStage = .sustain →
    (egClock c p).egCur = egTarget c p .decay2) ∧
  ∀ (l : List Instr) (s : State) (v : VoiceNum) (V : Voice) (o : OpNum),
    voiceAt s v = some V → (V.ops.get o).egStage = .sustain →
    (∀ i ∈ l, i ≠ .keyOn v ∧ i ≠ .keyOff v) →
    ∃ t W, runCmds l s = .next t ∧ voiceAt t v = some W ∧
      (W.ops.get o).egStage = .sustain ∧ (W.ops.get o).egCur = (V.ops.get o).egCur ∧
      egAtt t.cfg (W.ops.get o) = egAtt s.cfg (V.ops.get o)

/-- How long a segment takes: an envelope at distance `d` from its target, moving by `inc`, lands on
it exactly in the sample `k + 1` with `k * inc < d <= (k + 1) * inc`, and advances then; at distance
0 the first sample advances it (R128). -/
def Obligations.EnvelopeReachesItsTarget : Prop :=
  ∀ (s : State) (v : VoiceNum) (V : Voice) (o : OpNum) (k : Nat),
    voiceAt s v = some V →
    let p := V.ops.get o
    let tgt := egTarget s.cfg p p.egStage
    let inc := egInc s.cfg p p.egStage
    let d := (p.egCur - tgt) + (tgt - p.egCur)
    (k = 0 ∨ k * inc < d) → d ≤ (k + 1) * inc →
    ∃ t W, runCmds (List.replicate (k + 1) (.sample v)) s = .next t ∧ voiceAt t v = some W ∧
      (W.ops.get o).egCur = tgt ∧ (W.ops.get o).egStage = stageNext p.egStage

/-- The forward-only invariant (R132): only `KEY_ON` moves a stage back, and to Attack; only
`KEY_OFF` raises one by more than 1; End is left by `KEY_ON` alone; `WR_REG` moves none. -/
def Obligations.StagesMoveForwardOnly : Prop :=
  ∀ (i : Instr) (s t : State) (v : VoiceNum) (V W : Voice) (o : OpNum),
    exec i s = .next t → voiceAt s v = some V → voiceAt t v = some W →
    (i ≠ .keyOn v → (V.ops.get o).egStage.code ≤ (W.ops.get o).egStage.code) ∧
    (i = .keyOn v → (W.ops.get o).egStage.code = 0) ∧
    (i ≠ .keyOff v → (W.ops.get o).egStage.code ≤ (V.ops.get o).egStage.code + 1) ∧
    ((V.ops.get o).egStage.code = 5 → (W.ops.get o).egStage.code ≠ 5 → i = .keyOn v) ∧
    (isWriteCmd i = true → (W.ops.get o).egStage = (V.ops.get o).egStage)

/-- Changing `RS` changes no output: two states that differ in `RS` registers alone go to states
that differ in `RS` registers alone, under every command but the read of an `RS` register (R133). -/
def Obligations.RateScalingHasNoEffect : Prop :=
  ∀ (i : Instr) (s s' : State), eraseRs s = eraseRs s' →
    (∀ v a, i = .rdReg v a → isRsAddr a = false) →
    ∃ t t', exec i s = .next t ∧ exec i s' = .next t' ∧ eraseRs t = eraseRs t' ∧ t.dout = t'.dout

/-! ### TICK -/

/-- The delay, the fade, the phase and the generator in one `TICK`, and its frame (R172, R173, R174,
R175). -/
def Obligations.TickMovesTheLfo : Prop :=
  ∀ (s : State) (v : VoiceNum) (V : Voice), voiceAt s v = some V →
    ∃ W : Voice, exec (.tick v) s = .next (putVoice s v W) ∧
      (V.lfoStage = .delay → W.lfoFadeAcc = V.lfoFadeAcc ∧
        W.lfoDelayAcc.toNat = min 0xFFFF (V.lfoDelayAcc.toNat + V.lfoDelayInc.toNat) ∧
        W.lfoStage =
          if 0xFFFF ≤ V.lfoDelayAcc.toNat + V.lfoDelayInc.toNat then .fade else .delay) ∧
      (V.lfoStage = .fade → W.lfoDelayAcc = V.lfoDelayAcc ∧
        W.lfoFadeAcc.toNat = min 0xFFFF (V.lfoFadeAcc.toNat + V.lfoFadeInc.toNat) ∧
        W.lfoStage =
          if 0xFFFF ≤ V.lfoFadeAcc.toNat + V.lfoFadeInc.toNat then .steady else .fade) ∧
      (V.lfoStage = .steady → W.lfoDelayAcc = V.lfoDelayAcc ∧ W.lfoFadeAcc = V.lfoFadeAcc ∧
        W.lfoStage = .steady) ∧
      W.lfoPhase.toNat = (V.lfoPhase.toNat + V.lfoInc.toNat) % 65536 ∧
      W.lfoRand.toNat =
        (if 65536 ≤ V.lfoPhase.toNat + V.lfoInc.toNat then
          (V.lfoRand.toNat * s.cfg.lcgA + s.cfg.lcgC) % 256
        else V.lfoRand.toNat) ∧
      W.pegToggle = !V.pegToggle ∧
      W = { V with
            lfoDelayAcc := W.lfoDelayAcc, lfoFadeAcc := W.lfoFadeAcc, lfoStage := W.lfoStage
            lfoPhase := W.lfoPhase, lfoRand := W.lfoRand, lfoPout := W.lfoPout
            lfoAout := W.lfoAout, pegToggle := W.pegToggle, pegCur := W.pegCur
            pegStage := W.pegStage }

/-- The two outputs that a `TICK` computes from the wave, the fade and the controllers, and their
ranges (R172, R177). -/
def Obligations.TickComputesTheOutputs : Prop :=
  ∀ (s : State) (v : VoiceNum) (V : Voice), s.cfg.wf = true → voiceAt s v = some V →
    ∃ W : Voice, exec (.tick v) s = .next (putVoice s v W) ∧
      let u := wave s.cfg W.lfoWave W.lfoPhase W.lfoRand
      let fade := W.lfoFadeAcc.toNat / 256
      let pd := min 255 (fade * V.lfoPmd.toNat / 256 + mixP s.cfg V)
      let ad := min 255 (fade * V.lfoAmd.toNat / 256 + mixA s.cfg V)
      W.lfoPout.toInt = (((u : Int) - 128) * (pd : Int)) / 256 ∧
      W.lfoAout.toNat = u * ad / 256 ∧
      -128 ≤ W.lfoPout.toInt ∧ W.lfoPout.toInt ≤ 126 ∧ W.lfoAout.toNat ≤ 254

/-- The wave shapes, by the value of the phase (R176). -/
def Obligations.WaveShapesByPhase : Prop :=
  ∀ (c : Cfg) (p : BitVec 16) (r : BitVec 8),
    let t := p.toNat / 128 % 256
    let b := p.toNat / 256
    let q := p.toNat / 16384
    let i := p.toNat / 256 % 64
    let m := tbl c.lfoSine (if q % 2 = 1 then 63 - i else i)
    wave c 0 p r = (if 0x8000 ≤ p.toNat then 255 - t else t) ∧
    wave c 1 p r = 255 - b ∧
    wave c 2 p r = b ∧
    wave c 3 p r = (if 0x8000 ≤ p.toNat then 0 else 255) ∧
    wave c 4 p r = (if 2 ≤ q then 128 - m else 128 + m) ∧
    wave c 5 p r = r.toNat ∧
    wave c 6 p r = 128 ∧ wave c 7 p r = 128

/-- The reserved wave codes give no pitch modulation and a constant amplitude output (R178). -/
def Obligations.ReservedWavesAreCentred : Prop :=
  ∀ (s : State) (v : VoiceNum) (V : Voice), voiceAt s v = some V →
    V.lfoWave = 6 ∨ V.lfoWave = 7 →
    ∃ W : Voice, exec (.tick v) s = .next (putVoice s v W) ∧ W.lfoPout = 0 ∧
      W.lfoAout.toNat =
        128 * min 255 (W.lfoFadeAcc.toNat / 256 * V.lfoAmd.toNat / 256 + mixA s.cfg V) / 256

/-- The length of the delay: from a cleared accumulator the LFO is still in Delay after `k` ticks
exactly while `k * LFO_DELAY_INC` is below 0xFFFF, so it leaves after `ceil(0xFFFF/LFO_DELAY_INC)`
ticks, and never when the increment is 0; the fade does not move before (R173). -/
def Obligations.DelayLengthInTicks : Prop :=
  ∀ (s : State) (v : VoiceNum) (V : Voice) (k : Nat), voiceAt s v = some V →
    V.lfoStage = .delay → V.lfoDelayAcc = 0 →
    ∃ t W, runCmds (List.replicate k (.tick v)) s = .next t ∧ voiceAt t v = some W ∧
      (W.lfoStage = .delay ↔ k * V.lfoDelayInc.toNat < 0xFFFF) ∧
      (k * V.lfoDelayInc.toNat < 0xFFFF →
        W.lfoDelayAcc.toNat = k * V.lfoDelayInc.toNat ∧ W.lfoFadeAcc = V.lfoFadeAcc)

/-- The pitch envelope in one `TICK`: an update on every other call only (R191), then the clamped
move, at most one stage advance, the range 0 to 0x7F80 and the rate that reaches any target at once
(R192). -/
def Obligations.TickMovesThePitchEnvelope : Prop :=
  ∀ (s : State) (v : VoiceNum) (V : Voice), voiceAt s v = some V →
    ∃ W : Voice, exec (.tick v) s = .next (putVoice s v W) ∧ W.pegToggle = !V.pegToggle ∧
      (V.pegToggle = false → W.pegCur = V.pegCur ∧ W.pegStage = V.pegStage) ∧
      (V.pegToggle = true → ∃ (seg : Seg) (tgt inc cur : Nat),
        (seg.num = match V.pegStage with
          | .attack => 0 | .decay1 => 1 | .decay2 => 2 | .sustain => 2 | .release => 3
          | .ended => 3) ∧
        tgt = (V.pegLevel.get seg).toNat * 128 ∧
        inc = (if V.pegStage = .sustain ∨ V.pegStage = .ended then 0
          else (V.pegRate.get seg).toNat) ∧
        cur = (if V.pegCur.toNat < tgt then min (V.pegCur.toNat + inc) tgt
          else if tgt < V.pegCur.toNat then max (V.pegCur.toNat - inc) tgt
          else V.pegCur.toNat) ∧
        W.pegCur.toNat = cur ∧
        W.pegStage.code = (if cur = tgt ∧ V.pegStage ≠ .sustain ∧ V.pegStage ≠ .ended
          then V.pegStage.code + 1 else V.pegStage.code) ∧
        (V.pegStage = .sustain ∨ V.pegStage = .ended → W.pegCur = V.pegCur) ∧
        (V.pegCur.toNat ≤ 0x7F80 → W.pegCur.toNat ≤ 0x7F80) ∧
        (V.pegCur.toNat ≤ 0x7F80 → 0x7F80 ≤ inc → W.pegCur.toNat = tgt))

/-! ### Modulation and pitch -/

/-- Range scaling, the three destination sums, each clamped once, and the EG bias (R201, R202,
R203). -/
def Obligations.MixerSumsAreClamped : Prop :=
  ∀ (c : Cfg) (V : Voice),
    (∀ k, scaled c V k =
      (V.mixRaw.get k).toNat * (V.mixRange.get k).toNat * c.mixK / 2 ^ c.mixShift) ∧
    (∀ n, mixDest c V n = min 255
      ((if V.mixAssign.modWheel.getLsbD n then scaled c V .modWheel else 0) +
        (if V.mixAssign.foot.getLsbD n then scaled c V .foot else 0) +
        (if V.mixAssign.breath.getLsbD n then scaled c V .breath else 0) +
        (if V.mixAssign.afterTouch.getLsbD n then scaled c V .afterTouch else 0))) ∧
    mixP c V = mixDest c V 0 ∧ mixA c V = mixDest c V 1 ∧ mixE c V = mixDest c V 2 ∧
    ((∃ k, (V.mixAssign.get k).getLsbD 2 = true) → eb c V = 255 - mixE c V) ∧
    ((∀ k, (V.mixAssign.get k).getLsbD 2 = false) → eb c V = 0)

/-- The amplitude-modulation attenuation, its range, and an operator whose sensitivity has gain 0,
which neither the LFO nor the EG bias touches (R205). -/
def Obligations.AmplitudeModulationIsBounded : Prop :=
  ∀ (c : Cfg) (V : Voice) (o : OpNum), c.wf = true →
    amAtt c V o =
      min 255 (V.lfoAout.toNat + eb c V) * tbl c.amsGain (V.ops.get o).ams.toNat / 256 ∧
    amAtt c V o ≤ 254 ∧
    (tbl c.amsGain (V.ops.get o).ams.toNat = 0 → amAtt c V o = 0) ∧
    (c.amsGain = defaultAmsGain → (V.ops.get o).ams = 0 → amAtt c V o = 0)

/-- The pitch-bend offset and the voice pitch, with their ranges at the default shift, and the pitch
modulation amount (R206, R207, R204). -/
def Obligations.VoicePitchAddsBendAndEnvelope : Prop :=
  ∀ (c : Cfg) (V : Voice),
    pbOff c V = ((V.pbend.toNat : Int) - 8192) / 2 ^ c.pbShift ∧
    voicePitch c V =
      (V.vpitch.toNat : Int) + pbOff c V + ((V.pegCur.toNat : Int) - 16384) ∧
    pmod c V = V.lfoPout.toInt * (tbl c.pmsGain V.pms.toNat : Int) / 2 ^ c.pmodShift ∧
    (V.pbend = 0x2000 → pbOff c V = 0) ∧
    (c.pbShift = 3 → -1024 ≤ pbOff c V ∧ pbOff c V ≤ 1023) ∧
    (c.pbShift = 3 → V.pegCur.toNat ≤ 0x7F80 →
      -17408 ≤ voicePitch c V ∧ voicePitch c V ≤ 82814)

/-- The operator pitch: the base of each mode, detune and pitch modulation added, clamped to 16 bits;
in fixed mode the note, the bend and the pitch envelope have no effect (R208). -/
def Obligations.OperatorPitchIsClamped : Prop :=
  ∀ (c : Cfg) (V : Voice) (o : OpNum),
    let p := V.ops.get o
    let offset := p.detune.toInt * (c.detuneStep : Int) + pmod c V
    (p.mode = 1 →
      operatorPitch c V o = min (max ((p.pitch.toNat : Int) + offset) 0) 65535) ∧
    (p.mode = 0 →
      operatorPitch c V o = min (max (p.pitch.toInt + voicePitch c V + offset) 0) 65535) ∧
    ∀ (vp : BitVec 16) (pb : BitVec 14) (pc : BitVec 15), p.mode = 1 →
      operatorPitch c { V with vpitch := vp, pbend := pb, pegCur := pc } o = operatorPitch c V o

/-- The phase increment of an operator is that of its clamped pitch (R208), for every voice; and the
increment of a pitch is non-decreasing over the whole range and doubles, or doubles plus one, at each
octave, with an accumulator of at least 24 bits (R209, R210). -/
def Obligations.PhaseIncrementDoublesPerOctave : Prop :=
  ∀ c : Cfg, c.wf = true →
    (∀ (V : Voice) (o : OpNum), ∃ x : Nat, x ≤ 0xFFFF ∧ operatorPitch c V o = (x : Int) ∧
      pinc c V o = pitchInc c x ∧
      pinc c V o = tbl c.freqm (x % 4096) * 2 ^ (x / 4096) / 256 % 2 ^ c.phaseW) ∧
    ∀ x y : Nat, 24 ≤ c.phaseW → x ≤ y → y ≤ 0xFFFF →
      pitchInc c x = tbl c.freqm (x % 4096) * 2 ^ (x / 4096) / 256 ∧
      pitchInc c x ≤ pitchInc c y ∧ pitchInc c y < 2 ^ 24 ∧
      (x + 4096 ≤ 0xFFFF → pitchInc c (x + 4096) = 2 * pitchInc c x ∨
        pitchInc c (x + 4096) = 2 * pitchInc c x + 1)

/-! ### The whole machine -/

/-- Commands on different voices are independent (R66): a command changes no other voice, only
`RD_REG` changes `DOUT`, what it does depends on its own voice alone, and two adjacent words with
different voice fields, not both `RD_REG`, may be exchanged. -/
def Obligations.VoicesAreIndependent : Prop :=
  (∀ (i : Instr) (u : VoiceNum), cmdVoice i = some u →
    (∀ s t, exec i s = .next t →
      (∀ w, w ≠ u → voiceAt t w = voiceAt s w) ∧ (isReadCmd i = false → t.dout = s.dout)) ∧
    (∀ s s' t t', exec i s = .next t → exec i s' = .next t' → s.cfg = s'.cfg →
      voiceAt s u = voiceAt s' u →
      voiceAt t u = voiceAt t' u ∧
      (isReadCmd i = true → voiceAt s u ≠ none → t.dout = t'.dout))) ∧
  ∀ (s : State) (x y : Word), fieldV x ≠ fieldV y →
    ¬ (isReadCmd (decode x) = true ∧ isReadCmd (decode y) = true) →
    runCmds [decode x, decode y] s = runCmds [decode y, decode x] s

/-- No command changes the configuration, the number of voices or the words waiting on the port
(R20, R263, R65; the port is the model's, notes/assumptions/1.md). -/
def Obligations.ConfigurationIsFixed : Prop :=
  (∀ (i : Instr) (s t : State), exec i s = .next t →
    t.cfg = s.cfg ∧ t.voices.length = s.voices.length ∧ t.port = s.port) ∧
  ∀ s t : State, step s = .next t →
    t.cfg = s.cfg ∧ t.voices.length = s.voices.length ∧ t.port = s.port.tail

/-- Only `SAMPLE` of that voice moves a phase, an attenuation or a router register (R143, R136,
R39). -/
def Obligations.OnlySampleMovesTheSound : Prop :=
  ∀ (i : Instr) (s t : State) (v : VoiceNum) (V W : Voice),
    exec i s = .next t → voiceAt s v = some V → voiceAt t v = some W → i ≠ .sample v →
    (∀ o, (W.ops.get o).phase = (V.ops.get o).phase ∧ (W.ops.get o).egCur = (V.ops.get o).egCur) ∧
    W.mod = V.mod ∧ W.mem = V.mem ∧ W.sum = V.sum ∧ W.fb1 = V.fb1 ∧ W.fb2 = V.fb2 ∧
    W.out = V.out ∧ W.seq = V.seq

/-- Only `TICK` and `KEY_ON` of that voice change its LFO, and only `TICK` its pitch-envelope value
and toggle (R170, R191). -/
def Obligations.OnlyTickAndKeyOnMoveTheLfo : Prop :=
  ∀ (i : Instr) (s t : State) (v : VoiceNum) (V W : Voice),
    exec i s = .next t → voiceAt s v = some V → voiceAt t v = some W → i ≠ .tick v →
    (W.pegCur = V.pegCur ∧ W.pegToggle = V.pegToggle ∧ W.lfoRand = V.lfoRand ∧
      W.lfoPout = V.lfoPout ∧ W.lfoAout = V.lfoAout) ∧
    (i ≠ .keyOn v →
      W.lfoPhase = V.lfoPhase ∧ W.lfoDelayAcc = V.lfoDelayAcc ∧ W.lfoFadeAcc = V.lfoFadeAcc ∧
      W.lfoStage = V.lfoStage)

/-- Every parameter register keeps its value under every command but `WR_REG`, `SET_CTRL` and
`SET_PBEND`, which are the only writers of registers (R101, R107, R108, R115). -/
def Obligations.OnlyWritesChangeRegisters : Prop :=
  ∀ (i : Instr) (s t : State) (v : VoiceNum) (V W : Voice),
    exec i s = .next t → voiceAt s v = some V → voiceAt t v = some W →
    i.opcode ≠ .wrReg → i.opcode ≠ .setCtrl → i.opcode ≠ .setPbend →
    (∀ o r, opRegVal (W.ops.get o) r = opRegVal (V.ops.get o) r) ∧
    ∀ r, voiceRegVal W r = voiceRegVal V r

/-! ### The firmware's calls -/

/-- `programVoice` is 102 writes that load every patch-derived register, truncated to its width,
touch no runtime state and none of `VPITCH`, `PBEND`, `MIX_RAW`, `MIX_RANGE`, `MIX_ASSIGN`, and
running it twice is running it once (R221; the order of the writes is the model's,
notes/assumptions/11.md). -/
def Obligations.ProgramVoiceIsIdempotent : Prop :=
  ∀ (s : State) (v : VoiceNum) (V : Voice) (p : Patch), voiceAt s v = some V →
    (programVoice v p).length = 102 ∧
    ∃ W : Voice, runCmds (programVoice v p) s = .next (putVoice s v W) ∧
      runCmds (programVoice v p ++ programVoice v p) s = .next (putVoice s v W) ∧
      (∀ o,
        let q := p.ops.get o
        let code := fun d : Data => d.toNat % 2 ^ s.cfg.egCodeW
        W.ops.get o = { V.ops.get o with
          pitch := q.pitch, mode := q.mode.setWidth 1, detune := q.detune.setWidth 4
          olatt := q.olatt.setWidth 8, ams := q.ams.setWidth 2, rs := q.rs.setWidth 3
          egRate := ⟨code q.egRate.attack, code q.egRate.decay1, code q.egRate.decay2,
            code q.egRate.release⟩
          egLevel := ⟨code q.egLevel.attack, code q.egLevel.decay1, code q.egLevel.decay2,
            code q.egLevel.release⟩ }) ∧
      W = { V with
            ops := W.ops
            alg := if p.alg.toNat ≤ 31 then p.alg.setWidth 5 else V.alg
            fbl := p.fbl.setWidth 3, pms := p.pms.setWidth 3, pegRate := p.pegRate
            pegLevel := ⟨p.pegLevel.attack.setWidth 8, p.pegLevel.decay1.setWidth 8,
              p.pegLevel.decay2.setWidth 8, p.pegLevel.release.setWidth 8⟩
            lfoInc := p.lfoInc, lfoDelayInc := p.lfoDelayInc, lfoFadeInc := p.lfoFadeInc
            lfoPmd := p.lfoPmd.setWidth 8, lfoAmd := p.lfoAmd.setWidth 8
            lfoWave := p.lfoWave.setWidth 3, lfoSync := p.lfoSync.setWidth 1 }

/-- `gateOn` writes `VPITCH` and the six `OLATT` and then acts as `KEY_ON`; the attenuations it
starts from are the ones held before (R224, R105). -/
def Obligations.GateOnWritesThenKeysOn : Prop :=
  ∀ (s : State) (v : VoiceNum) (V : Voice) (n : Data) (ol : PerOp Data), voiceAt s v = some V →
    ∃ W : Voice, runCmds (gateOn v n ol) s = .next (putVoice s v W) ∧
      (∀ o, W.ops.get o =
        { V.ops.get o with olatt := (ol.get o).setWidth 8, egStage := .attack }) ∧
      W = { V with
            ops := W.ops, vpitch := n, pegStage := .attack, lfoDelayAcc := 0, lfoFadeAcc := 0
            lfoStage := .delay
            lfoPhase := if V.lfoSync = 1 then 0xFFFF else V.lfoPhase }

/-- The call `sample()` (R228, R89). For one voice: `OUT` as a signed value, then whether every
envelope is in End; the reads change no voice. For the list of the sounding voices: each is sampled
once, from the record it had before the call, and its two reads give its own values; every other
voice stays (R131, R43). -/
def Obligations.HostReadsTheSample : Prop :=
  (∀ (s : State) (v : VoiceNum) (V : Voice), s.wf = true → voiceAt s v = some V →
    ∃ (W : Voice) (x y : Word),
      exec (.sample v) s = .next (putVoice s v W) ∧
      runCmds [.sample v, .rdReg v (statusRegAddr .out)] s = .next (putDout (putVoice s v W) x) ∧
      x.toInt = W.sum ∧
      runCmds (sampleOne v) s = .next (putDout (putVoice s v W) y) ∧
      (y = 1 ↔ ∀ o, (W.ops.get o).egStage = .ended) ∧ (y = 0 ∨ y = 1)) ∧
  ∀ (s : State) (sounding : List VoiceNum), s.wf = true → sounding.Nodup →
    (∀ v ∈ sounding, v.toNat < s.cfg.nvoice) →
    ∃ t, runCmds (sampleCall sounding) s = .next t ∧ t.cfg = s.cfg ∧
      (∀ v, v ∉ sounding → voiceAt t v = voiceAt s v) ∧
      ∀ before v later, sounding = before ++ v :: later →
        ∃ (W : Voice) (p q : State),
          exec (.sample v) s = .next (putVoice s v W) ∧ voiceAt t v = some W ∧
          runCmds (sampleCall before ++ [.sample v, .rdReg v (statusRegAddr .out)]) s = .next p ∧
          p.dout.toInt = W.out ∧
          runCmds (sampleCall before ++ sampleOne v) s = .next q ∧
          (q.dout = 1 ↔ ∀ o, (W.ops.get o).egStage = .ended) ∧ (q.dout = 0 ∨ q.dout = 1)

/-! ### Configuration and reset -/

/-- Building an engine accepts a configuration exactly when it passes the shape checks, gives the
reset state then, and refuses it otherwise; what R6 says of sizes and ranges holds of an accepted
one (R6; the further checks are the model's, notes/assumptions/8.md). -/
def Obligations.BuildChecksTheConfiguration : Prop :=
  ∀ c : Cfg,
    (c.wf = true → State.build? c = some (State.resetWith c)) ∧
    (c.wf = false → State.build? c = none) ∧
    (c.wf = true →
      1 ≤ c.nvoice ∧ c.nvoice ≤ 16 ∧ c.lcgA < 256 ∧ c.lcgC < 256 ∧ c.lcgSeed < 256 ∧
      c.lsq.size = 1024 ∧ (∀ i, i < 1024 → tbl c.lsq i ≤ 16383) ∧
      c.expm.size = 1024 ∧ (∀ i, i < 1024 → tbl c.expm i ≤ 16383) ∧
      (∀ i j, i ≤ j → j < 1024 → tbl c.expm j ≤ tbl c.expm i) ∧
      c.freqm.size = 4096 ∧
      (∀ i, i < 4096 → 65536 ≤ tbl c.freqm i ∧ tbl c.freqm i ≤ 131071) ∧
      (∀ i j, i ≤ j → j < 4096 → tbl c.freqm i ≤ tbl c.freqm j) ∧
      c.lfoSine.size = 64 ∧ (∀ i, i < 64 → tbl c.lfoSine i ≤ 127) ∧
      c.egInc.size = 64 ∧ (∀ i, i < 64 → tbl c.egInc i < 2 ^ 24) ∧
      c.pmsGain.size = 8 ∧ (∀ i, i < 8 → tbl c.pmsGain i ≤ 255) ∧
      c.amsGain.size = 4 ∧ (∀ i, i < 4 → tbl c.amsGain i ≤ 255) ∧
      c.compAtt.size = 8 ∧ c.algRom.length = 32)

/-- The state after reset, element by element (R44), for every configuration whose `EG_CUR` has its
default 24 bits. -/
def Obligations.ResetValuesAreTheSpecs : Prop :=
  ∀ (c : Cfg) (v : VoiceNum), c.lcgSeed < 256 → c.egW = 24 → v.toNat < c.nvoice →
    (State.resetWith c).dout = 0 ∧
    ∃ V : Voice, voiceAt (State.resetWith c) v = some V ∧
      (∀ o,
        (∀ r, (∀ g, r ≠ .egLevel g) → opRegVal (V.ops.get o) r = 0) ∧
        (∀ g, (V.ops.get o).egLevel.get g = 63) ∧
        (V.ops.get o).phase = 0 ∧ (V.ops.get o).egCur = 0xFFFFFF ∧
        (V.ops.get o).egStage.code = 5) ∧
      (∀ r, r ≠ .pbend → (∀ g, r ≠ .pegLevel g) → voiceRegVal V r = 0) ∧
      V.pbend = 0x2000 ∧ (∀ g, V.pegLevel.get g = 0x80) ∧
      V.pegCur = 0x4000 ∧ V.pegStage.code = 5 ∧ V.pegToggle = false ∧
      V.lfoPhase = 0 ∧ V.lfoDelayAcc = 0 ∧ V.lfoFadeAcc = 0 ∧ V.lfoStage.code = 0 ∧
      V.lfoRand.toNat = c.lcgSeed ∧ V.lfoPout = 0 ∧ V.lfoAout = 0 ∧
      V.mod = 0 ∧ V.mem = 0 ∧ V.sum = 0 ∧ V.fb1 = 0 ∧ V.fb2 = 0 ∧ V.out = 0 ∧ V.seq = 0

/-- The three invariants hold after reset. The first clause holds of every accepted configuration
(R252, R262); `State.reset` takes the default one, whose `NVOICE` of 2 and tables are choices
(notes/assumptions/3.md, notes/assumptions/4.md). -/
def Obligations.ResetMeetsTheInvariants : Prop :=
  (∀ c : Cfg, c.wf = true →
    (State.resetWith c).wf = true ∧ (State.resetWith c).noWrap = true ∧
    (defaultAttWidths c = true → (State.resetWith c).unprogrammed = true)) ∧
  State.reset.wf = true ∧ State.reset.noWrap = true ∧ State.reset.unprogrammed = true

/-- Behaviour straight after reset (R262, parts a to d): what the status reads give, a silent
`SAMPLE` that advances every phase by the increment of pitch 0, a `TICK` that sets the toggle and
changes nothing else, a `KEY_OFF` that changes nothing. -/
def Obligations.BehaviourAfterReset : Prop :=
  ∀ (c : Cfg) (v : VoiceNum), c.wf = true → defaultAttWidths c = true → v.toNat < c.nvoice →
    let s := State.resetWith c
    let V := Voice.reset c
    (exec (.rdReg v (statusRegAddr .complete)) s = .next (putDout s 1) ∧
      exec (.rdReg v (statusRegAddr .out)) s = .next (putDout s 0) ∧
      (∀ o, exec (.rdReg v (statusRegAddr (.egAtt o))) s = .next (putDout s 0xFFF)) ∧
      ∀ o, exec (.rdReg v (statusRegAddr (.egStage o))) s = .next (putDout s 5)) ∧
    exec (.sample v) s = .next (putVoice s v { V with
      ops := PerOp.const { OpRec.reset c with phase := tbl c.freqm 0 / 256 % 2 ^ c.phaseW } }) ∧
    exec (.tick v) s = .next (putVoice s v { V with pegToggle := true }) ∧
    exec (.keyOff v) s = .next s

/-! ### Invariants that every step keeps -/

/-- Totality as a proof obligation (R252): for every accepted configuration the reset state is
within every declared width and value set, and from every such state every step gives such a
state. -/
def Obligations.StepKeepsTheState : Prop :=
  (∀ c : Cfg, c.wf = true → (State.resetWith c).wf = true) ∧
  ∀ s : State, s.wf = true → ∃ t, step s = .next t ∧ t.wf = true

/-- A voice that no register write has reached stays silent: the invariant that every command but
`WR_REG` keeps, from every state that has it (R262). -/
def Obligations.UnprogrammedVoicesStaySilent : Prop :=
  ∀ (i : Instr) (s t : State), s.wf = true → defaultAttWidths s.cfg = true →
    s.unprogrammed = true → isWriteCmd i = false → exec i s = .next t → t.unprogrammed = true

/-- From reset, every command sequence with no `WR_REG` leaves `OUT` of every voice at 0 (R262). -/
def Obligations.NoWriteMeansSilence : Prop :=
  ∀ (c : Cfg) (l : List Instr), c.wf = true → defaultAttWidths c = true →
    (∀ i ∈ l, isWriteCmd i = false) →
    ∃ t, runCmds l (State.resetWith c) = .next t ∧
      ∀ (v : VoiceNum) (V : Voice), voiceAt t v = some V → V.out = 0

/-- With the default ROM and 18-bit accumulators no accumulator overflows: `MEM` stays within three
outputs, `SUM` and `OUT` within six, under every command (R162; the ROM is the spec's default,
notes/assumptions/5.md). -/
def Obligations.AccumulatorsDoNotOverflow : Prop :=
  ∀ (i : Instr) (s t : State), s.wf = true → s.cfg.accW = 18 → s.cfg.algRom = defaultAlgRom →
    s.noWrap = true → exec i s = .next t → t.noWrap = true

end
end

