-- ==== Sys2Proof/Laws/Arith.lean ====
section
/-! SUPPORT. The small lemmas of the arithmetic primitives (R8) and of the table checks (R6). -/

namespace Sys2Proof.Machine

theorem wrap_lt (n x : Nat) : wrap n x < 2 ^ n := Nat.mod_lt _ (Nat.two_pow_pos n)

theorem wrap_of_lt {n x : Nat} (h : x < 2 ^ n) : wrap n x = x := Nat.mod_eq_of_lt h

theorem wrapInt_lt (n : Nat) (x : Int) : wrapInt n x < 2 ^ n := by
  have hp : (0 : Int) < ((2 ^ n : Nat) : Int) := by exact_mod_cast Nat.two_pow_pos n
  have h0 := Int.emod_nonneg x (ne_of_gt hp)
  have h1 := Int.emod_lt_of_pos x hp
  unfold wrapInt
  omega

theorem fitsSigned_iff (n : Nat) (v : Int) :
    fitsSigned n v = true ↔
      -((2 ^ (n - 1) : Nat) : Int) ≤ v ∧ v < ((2 ^ (n - 1) : Nat) : Int) := by
  simp [fitsSigned]

theorem two_pow_pred {n : Nat} (h : 1 ≤ n) : (2 ^ n : Nat) = 2 * 2 ^ (n - 1) := by
  obtain ⟨k, rfl⟩ : ∃ k, n = k + 1 := ⟨n - 1, by omega⟩
  rw [Nat.add_sub_cancel, pow_succ, mul_comm]

/-- A wrapped value fits its width. -/
theorem swrap_fits {n : Nat} (h : 1 ≤ n) (x : Int) : fitsSigned n (swrap n x) = true := by
  have hp : (0 : Int) < ((2 ^ n : Nat) : Int) := by exact_mod_cast Nat.two_pow_pos n
  have h2 := two_pow_pred h
  have hl := Int.le_bmod (x := x) (m := 2 ^ n) (Nat.two_pow_pos n)
  have hu := Int.bmod_lt (x := x) (m := 2 ^ n) (Nat.two_pow_pos n)
  rw [fitsSigned_iff]
  unfold swrap
  rw [h2] at hl hu ⊢
  omega

/-- Wrapping changes no value that fits. -/
theorem swrap_of_fits {n : Nat} (h : 1 ≤ n) {x : Int} (hx : fitsSigned n x = true) :
    swrap n x = x := by
  rw [fitsSigned_iff] at hx
  have h2 := two_pow_pred h
  unfold swrap
  rw [h2]
  exact Int.bmod_eq_of_le (by omega) (by omega)

theorem sat_le (n x : Nat) : sat n x ≤ 2 ^ n - 1 := Nat.min_le_right _ _

theorem sat_lt (n x : Nat) : sat n x < 2 ^ n := by
  have := sat_le n x
  have := Nat.two_pow_pos n
  omega

theorem clamp_le {lo hi : Int} (x : Int) : clamp x lo hi ≤ hi := min_le_right _ _

theorem le_clamp {lo hi : Int} (h : lo ≤ hi) (x : Int) : lo ≤ clamp x lo hi :=
  le_min (le_max_right _ _) h

theorem asr_zero (n : Nat) : asr 0 n = 0 := by simp [asr]

/-- A move never passes its target, and never leaves the interval between value and target. -/
theorem moveToward_between (cur tgt inc : Nat) :
    min cur tgt ≤ moveToward cur tgt inc ∧ moveToward cur tgt inc ≤ max cur tgt := by
  unfold moveToward
  split
  · omega
  · split <;> omega

theorem moveToward_zero (cur tgt : Nat) : moveToward cur tgt 0 = cur := by
  unfold moveToward
  split
  · omega
  · split <;> omega

theorem moveToward_self (cur inc : Nat) : moveToward cur cur inc = cur := by simp [moveToward]

/-- A move reaches a target that is at most one increment away. -/
theorem moveToward_reaches {cur tgt inc : Nat} (h1 : tgt ≤ cur + inc) (h2 : cur ≤ tgt + inc) :
    moveToward cur tgt inc = tgt := by
  unfold moveToward
  split
  · omega
  · split <;> omega

theorem tbl_lt (t : Rom) (i : Nat) : tbl t i < 2 ^ t.width := by
  unfold tbl
  split
  · exact Nat.mod_lt _ (Nat.two_pow_pos _)
  · exact Nat.two_pow_pos _

theorem tbl_out_of_range {t : Rom} {i : Nat} (h : t.size ≤ i) : tbl t i = 0 := by
  simp [tbl, Nat.not_lt.mpr h]

theorem allBelow_iff (n : Nat) (p : Nat → Bool) :
    allBelow n p = true ↔ ∀ i, i < n → p i = true := by
  induction n with
  | zero => simp [allBelow]
  | succ k ih =>
    simp only [allBelow, Bool.and_eq_true, ih]
    constructor
    · rintro ⟨hk, h⟩ i hi
      rcases Nat.lt_succ_iff_lt_or_eq.mp hi with h' | rfl
      · exact h i h'
      · exact hk
    · exact fun h => ⟨h k (Nat.lt_succ_self k), fun i hi => h i (Nat.lt_succ_of_lt hi)⟩

theorem romHas_iff (t : Rom) (n : Nat) (p : Nat → Bool) :
    romHas t n p = true ↔ t.size = n ∧ ∀ i, i < n → p (tbl t i) = true := by
  simp [romHas, allBelow_iff]

end Sys2Proof.Machine
end

