-- ==== Sys2Proof/Laws/Config.lean ====
section
/-! SUPPORT. What an accepted configuration gives (R6), one lemma per check, and the accessors of
the fixed-shape records. -/

namespace Sys2Proof

@[simp] theorem PerOp.get_set_same {α : Type} (p : PerOp α) (o : OpNum) (x : α) :
    (p.set o x).get o = x := by cases o <;> rfl

theorem PerOp.get_set_ne {α : Type} (p : PerOp α) {o o' : OpNum} (x : α) (h : o' ≠ o) :
    (p.set o x).get o' = p.get o' := by
  cases o <;> cases o' <;> first | rfl | exact absurd rfl h

@[simp] theorem PerOp.get_map {α β : Type} (f : α → β) (p : PerOp α) (o : OpNum) :
    (p.map f).get o = f (p.get o) := by cases o <;> rfl

@[simp] theorem PerOp.get_const {α : Type} (x : α) (o : OpNum) : (PerOp.const x).get o = x := by
  cases o <;> rfl

/-- Two records that agree at every operator are equal. -/
theorem PerOp.ext_get {α : Type} {p q : PerOp α} (h : ∀ o, p.get o = q.get o) : p = q := by
  cases p
  cases q
  simp only [PerOp.mk.injEq]
  exact ⟨h .op1, h .op2, h .op3, h .op4, h .op5, h .op6⟩

theorem PerOp.all_toList {α : Type} (p : PerOp α) (f : α → Bool) :
    p.toList.all f = true ↔ ∀ o, f (p.get o) = true := by
  constructor
  · intro h o
    simp only [PerOp.toList, List.all_cons, List.all_nil, Bool.and_true, Bool.and_eq_true] at h
    obtain ⟨h1, h2, h3, h4, h5, h6⟩ := h
    cases o <;> assumption
  · intro h
    simp only [PerOp.toList, List.all_cons, List.all_nil, Bool.and_true, Bool.and_eq_true]
    exact ⟨h .op1, h .op2, h .op3, h .op4, h .op5, h .op6⟩

@[simp] theorem PerSeg.get_set_same {α : Type} (p : PerSeg α) (i : Seg) (x : α) :
    (p.set i x).get i = x := by cases i <;> rfl

theorem PerSeg.get_set_ne {α : Type} (p : PerSeg α) {i j : Seg} (x : α) (h : j ≠ i) :
    (p.set i x).get j = p.get j := by
  cases i <;> cases j <;> first | rfl | exact absurd rfl h

@[simp] theorem PerSeg.get_const {α : Type} (x : α) (i : Seg) : (PerSeg.const x).get i = x := by
  cases i <;> rfl

theorem PerSeg.all_toList {α : Type} (p : PerSeg α) (f : α → Bool) :
    p.toList.all f = true ↔ ∀ i, f (p.get i) = true := by
  constructor
  · intro h i
    simp only [PerSeg.toList, List.all_cons, List.all_nil, Bool.and_true, Bool.and_eq_true] at h
    obtain ⟨h1, h2, h3, h4⟩ := h
    cases i <;> assumption
  · intro h
    simp only [PerSeg.toList, List.all_cons, List.all_nil, Bool.and_true, Bool.and_eq_true]
    exact ⟨h .attack, h .decay1, h .decay2, h .release⟩

@[simp] theorem PerCtrl.get_set_same {α : Type} (p : PerCtrl α) (i : Ctrl) (x : α) :
    (p.set i x).get i = x := by cases i <;> rfl

theorem PerCtrl.get_set_ne {α : Type} (p : PerCtrl α) {i j : Ctrl} (x : α) (h : j ≠ i) :
    (p.set i x).get j = p.get j := by
  cases i <;> cases j <;> first | rfl | exact absurd rfl h

@[simp] theorem PerCtrl.get_const {α : Type} (x : α) (i : Ctrl) : (PerCtrl.const x).get i = x := by
  cases i <;> rfl

open Machine

/-- An accepted configuration passes every check. -/
theorem Cfg.wf_checks {c : Cfg} (h : c.wf = true) :
    c.nvoiceOk = true ∧ c.widthsOk = true ∧ c.fbBaseOk = true ∧ c.lcgOk = true ∧
      c.atNumOk = true ∧ c.lsqOk = true ∧ c.expmOk = true ∧ c.freqmOk = true ∧
      c.lfoSineOk = true ∧ c.egIncOk = true ∧ c.pmsGainOk = true ∧ c.amsGainOk = true ∧
      c.compAttOk = true ∧ c.algRomOk = true := by
  simp only [Cfg.wf, Bool.and_eq_true] at h
  tauto

theorem Cfg.wf_nvoice {c : Cfg} (h : c.wf = true) : 1 ≤ c.nvoice ∧ c.nvoice ≤ 16 := by
  simpa [Cfg.nvoiceOk] using (Cfg.wf_checks h).1

theorem Cfg.wf_widths {c : Cfg} (h : c.wf = true) :
    c.phiW ≤ c.phaseW ∧ c.attW ≤ c.egW ∧ c.attW ≤ 32 ∧ 8 ≤ c.egW ∧ 1 ≤ c.accW ∧ c.accW ≤ 32 := by
  have := (Cfg.wf_checks h).2.1
  simp only [Cfg.widthsOk, Bool.and_eq_true, decide_eq_true_eq] at this
  tauto

/-- The phase index is 12 bits wide: `LSQ` holds a quarter of its cycle. -/
theorem Cfg.wf_phiW {c : Cfg} (h : c.wf = true) : c.phiW = 12 := by
  have hl := (Cfg.wf_checks h).2.2.2.2.2.1
  simp only [Cfg.lsqOk, Bool.and_eq_true, decide_eq_true_eq, beq_iff_eq] at hl
  have h10 : c.phiW - 2 = 10 := Nat.pow_right_injective (le_refl 2) (hl.2.trans (by norm_num))
  omega

theorem Cfg.wf_expm_le {c : Cfg} (h : c.wf = true) (i : Nat) : tbl c.expm i ≤ 16383 := by
  have he := (Cfg.wf_checks h).2.2.2.2.2.2.1
  simp only [Cfg.expmOk, Bool.and_eq_true, romHas_iff, decide_eq_true_eq] at he
  rcases Nat.lt_or_ge i 1024 with hi | hi
  · exact he.1.2 i hi
  · rw [tbl_out_of_range (by omega)]
    omega

theorem Cfg.wf_freqm {c : Cfg} (h : c.wf = true) :
    c.pitchOct = 4096 ∧ (∀ i, i < 4096 → 65536 ≤ tbl c.freqm i ∧ tbl c.freqm i ≤ 131071) ∧
      ∀ i, i < 4095 → tbl c.freqm i ≤ tbl c.freqm (i + 1) := by
  have hf := (Cfg.wf_checks h).2.2.2.2.2.2.2.1
  simp only [Cfg.freqmOk, Bool.and_eq_true, romHas_iff, allBelow_iff, decide_eq_true_eq,
    beq_iff_eq] at hf
  exact ⟨hf.1.2, hf.1.1.2, hf.2⟩

theorem Cfg.wf_lfoSine_le {c : Cfg} (h : c.wf = true) (i : Nat) : tbl c.lfoSine i ≤ 127 := by
  have hs := (Cfg.wf_checks h).2.2.2.2.2.2.2.2.1
  simp only [Cfg.lfoSineOk, romHas_iff, decide_eq_true_eq] at hs
  rcases Nat.lt_or_ge i 64 with hi | hi
  · exact hs.2 i hi
  · rw [tbl_out_of_range (by omega)]
    omega

/-- Envelope codes are six bits wide: `EG_INC` has an entry for each. -/
theorem Cfg.wf_egCodeW {c : Cfg} (h : c.wf = true) : c.egCodeW = 6 := by
  have hs := (Cfg.wf_checks h).2.2.2.2.2.2.2.2.2.1
  simp only [Cfg.egIncOk, Bool.and_eq_true, beq_iff_eq] at hs
  exact Nat.pow_right_injective (le_refl 2) (hs.2.trans (by norm_num))

theorem Cfg.wf_amsGain_le {c : Cfg} (h : c.wf = true) (i : Nat) : tbl c.amsGain i ≤ 255 := by
  have hs := (Cfg.wf_checks h).2.2.2.2.2.2.2.2.2.2.2.1
  simp only [Cfg.amsGainOk, romHas_iff, decide_eq_true_eq] at hs
  rcases Nat.lt_or_ge i 4 with hi | hi
  · exact hs.2 i hi
  · rw [tbl_out_of_range (by omega)]
    omega

theorem Cfg.wf_algRom {c : Cfg} (h : c.wf = true) : c.algRom.length = 32 := by
  have hs := (Cfg.wf_checks h).2.2.2.2.2.2.2.2.2.2.2.2.2
  simpa [Cfg.algRomOk, nAlg] using hs

end Sys2Proof
end

