-- ==== Sys2Proof/Laws/Decode.lean ====
section
/-! SUPPORT. The fields of an encoded word (R81, R88). -/

namespace Sys2Proof

theorem append_toNat {m n : Nat} (x : BitVec m) (y : BitVec n) :
    (x ++ y).toNat = x.toNat * 2 ^ n + y.toNat := by
  rw [BitVec.toNat_append, ← Nat.shiftLeft_add_eq_or_of_lt y.isLt, Nat.shiftLeft_eq]

/-- `enc(OPC, V, A, D) = (OPC << 28) | (V << 24) | (A << 16) | D` as a number (R88). -/
theorem enc_toNat (o : OpcBits) (v : VoiceNum) (a : Addr) (d : Data) :
    (enc o v a d).toNat = ((o.toNat * 16 + v.toNat) * 256 + a.toNat) * 65536 + d.toNat := by
  show (o ++ v ++ a ++ d).toNat = _
  simp only [append_toNat]
  norm_num

@[simp] theorem fieldOpc_enc (o : OpcBits) (v : VoiceNum) (a : Addr) (d : Data) :
    fieldOpc (enc o v a d) = o := by
  apply BitVec.eq_of_toNat_eq
  simp only [fieldOpc, BitVec.extractLsb'_toNat, enc_toNat, Nat.shiftRight_eq_div_pow]
  have := o.isLt; have := v.isLt; have := a.isLt; have := d.isLt
  omega

@[simp] theorem fieldV_enc (o : OpcBits) (v : VoiceNum) (a : Addr) (d : Data) :
    fieldV (enc o v a d) = v := by
  apply BitVec.eq_of_toNat_eq
  simp only [fieldV, BitVec.extractLsb'_toNat, enc_toNat, Nat.shiftRight_eq_div_pow]
  have := o.isLt; have := v.isLt; have := a.isLt; have := d.isLt
  omega

@[simp] theorem fieldA_enc (o : OpcBits) (v : VoiceNum) (a : Addr) (d : Data) :
    fieldA (enc o v a d) = a := by
  apply BitVec.eq_of_toNat_eq
  simp only [fieldA, BitVec.extractLsb'_toNat, enc_toNat, Nat.shiftRight_eq_div_pow]
  have := o.isLt; have := v.isLt; have := a.isLt; have := d.isLt
  omega

@[simp] theorem fieldD_enc (o : OpcBits) (v : VoiceNum) (a : Addr) (d : Data) :
    fieldD (enc o v a d) = d := by
  apply BitVec.eq_of_toNat_eq
  simp only [fieldD, BitVec.extractLsb'_toNat, enc_toNat, Nat.shiftRight_eq_div_pow]
  have := o.isLt; have := v.isLt; have := a.isLt; have := d.isLt
  omega

@[simp] theorem opcodeOf_opcodeBits (o : Opcode) : opcodeOf (opcodeBits o) = o := by
  cases o <;> rfl

end Sys2Proof
end

