-- ==== Sys2Proof/Laws/State.lean ====
section
/-! SUPPORT. One lemma per field per update of the state records, each true by unfolding once, so
that no later proof unfolds a record update. -/

namespace Sys2Proof.Machine

@[simp] theorem putVoice_cfg (s : State) (v : VoiceNum) (V : Voice) : (putVoice s v V).cfg = s.cfg := rfl

@[simp] theorem putVoice_port (s : State) (v : VoiceNum) (V : Voice) :
    (putVoice s v V).port = s.port := rfl

@[simp] theorem putVoice_dout (s : State) (v : VoiceNum) (V : Voice) :
    (putVoice s v V).dout = s.dout := rfl

theorem putVoice_voices (s : State) (v : VoiceNum) (V : Voice) :
    (putVoice s v V).voices = s.voices.set v.toNat V := rfl

@[simp] theorem putDout_cfg (s : State) (x : Word) : (putDout s x).cfg = s.cfg := rfl

@[simp] theorem putDout_port (s : State) (x : Word) : (putDout s x).port = s.port := rfl

@[simp] theorem putDout_voices (s : State) (x : Word) : (putDout s x).voices = s.voices := rfl

@[simp] theorem putDout_dout (s : State) (x : Word) : (putDout s x).dout = x := rfl

@[simp] theorem fetch_cfg (s : State) : (fetch s).2.cfg = s.cfg := by
  unfold fetch
  split <;> rfl

@[simp] theorem fetch_voices (s : State) : (fetch s).2.voices = s.voices := by
  unfold fetch
  split <;> rfl

@[simp] theorem fetch_dout (s : State) : (fetch s).2.dout = s.dout := by
  unfold fetch
  split <;> rfl

@[simp] theorem fetch_port (s : State) : (fetch s).2.port = s.port.tail := by
  unfold fetch
  split <;> simp [*]

/-- An idle port gives the word 0; otherwise the first word is taken. -/
theorem fetch_word (s : State) : (fetch s).1 = s.port.headD 0 := by
  unfold fetch
  split <;> simp [*]

@[simp] theorem withFetchWord_cfg (s : State) (n w : Nat) : (s.withFetchWord n w).cfg = s.cfg := rfl

@[simp] theorem withFetchWord_voices (s : State) (n w : Nat) :
    (s.withFetchWord n w).voices = s.voices := rfl

@[simp] theorem withFetchWord_dout (s : State) (n w : Nat) : (s.withFetchWord n w).dout = s.dout := rfl

/-- The word set by `withFetchWord` is the one the next step fetches. -/
theorem fetch_withFetchWord (s : State) (n w : Nat) :
    fetch (s.withFetchWord n w) = (BitVec.ofNat 32 (w % 2 ^ n), s) := rfl

@[simp] theorem egClock_pitch (c : Cfg) (p : OpRec) : (egClock c p).pitch = p.pitch := rfl

@[simp] theorem egClock_mode (c : Cfg) (p : OpRec) : (egClock c p).mode = p.mode := rfl

@[simp] theorem egClock_detune (c : Cfg) (p : OpRec) : (egClock c p).detune = p.detune := rfl

@[simp] theorem egClock_olatt (c : Cfg) (p : OpRec) : (egClock c p).olatt = p.olatt := rfl

@[simp] theorem egClock_ams (c : Cfg) (p : OpRec) : (egClock c p).ams = p.ams := rfl

@[simp] theorem egClock_rs (c : Cfg) (p : OpRec) : (egClock c p).rs = p.rs := rfl

@[simp] theorem egClock_egRate (c : Cfg) (p : OpRec) : (egClock c p).egRate = p.egRate := rfl

@[simp] theorem egClock_egLevel (c : Cfg) (p : OpRec) : (egClock c p).egLevel = p.egLevel := rfl

@[simp] theorem egClock_phase (c : Cfg) (p : OpRec) : (egClock c p).phase = p.phase := rfl

@[simp] theorem egClock_egCur (c : Cfg) (p : OpRec) : (egClock c p).egCur = egMoved c p := rfl

@[simp] theorem egClock_egStage (c : Cfg) (p : OpRec) :
    (egClock c p).egStage = egStageAfter c p := rfl

/-- The clocked record differs from the clocked envelope in the phase alone. -/
theorem operatorClocked_eq (c : Cfg) (V : Voice) (o : OpNum) :
    operatorClocked c V o = { egClock c (V.ops.get o) with phase := phaseAfter c V o } := rfl

@[simp] theorem operatorClocked_phase (c : Cfg) (V : Voice) (o : OpNum) :
    (operatorClocked c V o).phase = phaseAfter c V o := rfl

@[simp] theorem operatorClocked_egCur (c : Cfg) (V : Voice) (o : OpNum) :
    (operatorClocked c V o).egCur = egMoved c (V.ops.get o) := rfl

@[simp] theorem operatorClocked_egStage (c : Cfg) (V : Voice) (o : OpNum) :
    (operatorClocked c V o).egStage = egStageAfter c (V.ops.get o) := rfl

@[simp] theorem operatorClocked_egRate (c : Cfg) (V : Voice) (o : OpNum) :
    (operatorClocked c V o).egRate = (V.ops.get o).egRate := rfl

@[simp] theorem operatorClocked_egLevel (c : Cfg) (V : Voice) (o : OpNum) :
    (operatorClocked c V o).egLevel = (V.ops.get o).egLevel := rfl

@[simp] theorem operatorClocked_rs (c : Cfg) (V : Voice) (o : OpNum) :
    (operatorClocked c V o).rs = (V.ops.get o).rs := rfl

end Sys2Proof.Machine
end

