-- ==== Sys2Proof/Laws/Envelope.lean ====
section
/-! SUPPORT. What one envelope clock can do (41_envelope_generator.md). -/

namespace Sys2Proof.Machine

/-- A stage advances by at most one. -/
theorem stageNext_code (st : EgStage) :
    st.code ≤ (stageNext st).code ∧ (stageNext st).code ≤ st.code + 1 := by
  cases st <;> decide

theorem stageKeyOff_code (st : EgStage) : (stageKeyOff st).code = max st.code 4 := by
  cases st <;> rfl

theorem egStageAfter_cases (c : Cfg) (p : OpRec) :
    (egMoved c p = egTarget c p p.egStage ∧ egStageAfter c p = stageNext p.egStage) ∨
      (egMoved c p ≠ egTarget c p p.egStage ∧ egStageAfter c p = p.egStage) := by
  unfold egStageAfter
  split
  · exact .inl ⟨‹_›, rfl⟩
  · exact .inr ⟨‹_›, rfl⟩

/-- In Sustain and End the increment is 0, so the attenuation stays. -/
theorem egMoved_of_holds {c : Cfg} {p : OpRec} (h : stageHolds p.egStage = true) :
    egMoved c p = p.egCur := by
  simp [egMoved, egInc, h, moveToward_zero]

theorem att8_lt (a : Nat) : att8 a < 256 := Nat.mod_lt _ (by decide)

/-- A target is an eight-bit value at the top of `EG_CUR`. -/
theorem egTarget_lt {c : Cfg} (h : 8 ≤ c.egW) (p : OpRec) (st : EgStage) :
    egTarget c p st < 2 ^ c.egW := by
  have hw : 2 ^ c.egW = 256 * 2 ^ (c.egW - 8) := by
    rw [show (256 : Nat) = 2 ^ 8 from rfl, ← pow_add, Nat.add_sub_cancel' h]
  rw [egTarget, Nat.shiftLeft_eq, hw]
  exact Nat.mul_lt_mul_of_pos_right (by omega) (Nat.two_pow_pos _)

theorem egMoved_lt {c : Cfg} (h : 8 ≤ c.egW) {p : OpRec} (hp : p.egCur < 2 ^ c.egW) :
    egMoved c p < 2 ^ c.egW := by
  have := (moveToward_between p.egCur (egTarget c p p.egStage) (egInc c p p.egStage)).2
  have := egTarget_lt h p p.egStage
  unfold egMoved
  omega

end Sys2Proof.Machine
end

