-- ==== Sys2Proof/Laws/Ops.lean ====
section
/-! SUPPORT. What finding and replacing a voice record can do (R20, R85). -/

namespace Sys2Proof.Machine

theorem voiceAt_eq_some {s : State} {v : VoiceNum} {V : Voice} :
    voiceAt s v = some V ↔ v.toNat < s.cfg.nvoice ∧ s.voices[v.toNat]? = some V := by
  unfold voiceAt
  split <;> simp [*]

/-- A voice number not below `NVOICE` names no voice. -/
theorem voiceAt_eq_none_of_le {s : State} {v : VoiceNum} (h : s.cfg.nvoice ≤ v.toNat) :
    voiceAt s v = none := by
  simp [voiceAt, Nat.not_lt.mpr h]

theorem voiceAt_mem {s : State} {v : VoiceNum} {V : Voice} (h : voiceAt s v = some V) :
    V ∈ s.voices := List.mem_of_getElem? (voiceAt_eq_some.mp h).2

theorem voiceAt_putVoice_same {s : State} {v : VoiceNum} {V : Voice} (W : Voice)
    (h : voiceAt s v = some V) : voiceAt (putVoice s v W) v = some W := by
  obtain ⟨h1, h2⟩ := voiceAt_eq_some.mp h
  obtain ⟨h3, -⟩ := List.getElem?_eq_some_iff.mp h2
  exact voiceAt_eq_some.mpr ⟨h1, by simp [putVoice_voices, h3]⟩

theorem voiceAt_putVoice_ne {s : State} {u v : VoiceNum} (W : Voice) (h : u ≠ v) :
    voiceAt (putVoice s v W) u = voiceAt s u := by
  have hn : v.toNat ≠ u.toNat := fun e => h (BitVec.eq_of_toNat_eq e.symm)
  simp [voiceAt, putVoice_voices, List.getElem?_set_ne hn]

@[simp] theorem voiceAt_putDout (s : State) (x : Word) (v : VoiceNum) :
    voiceAt (putDout s x) v = voiceAt s v := rfl

theorem putVoice_putVoice (s : State) (v : VoiceNum) (V W : Voice) :
    putVoice (putVoice s v V) v W = putVoice s v W := by simp [putVoice]

theorem putVoice_comm {u v : VoiceNum} (h : u ≠ v) (s : State) (V W : Voice) :
    putVoice (putVoice s u V) v W = putVoice (putVoice s v W) u V := by
  have hn : u.toNat ≠ v.toNat := fun e => h (BitVec.eq_of_toNat_eq e)
  simp only [putVoice]
  rw [List.set_comm _ _ hn]

theorem putVoice_self {s : State} {v : VoiceNum} {V : Voice} (h : voiceAt s v = some V) :
    putVoice s v V = s := by
  obtain ⟨-, h2⟩ := voiceAt_eq_some.mp h
  obtain ⟨h3, h4⟩ := List.getElem?_eq_some_iff.mp h2
  have : s.voices.set v.toNat V = s.voices := by rw [← h4]; exact List.set_getElem_self h3
  simp [putVoice, this]

/-- A voice of the changed state is the one put there or one that was there. -/
theorem mem_putVoice {s : State} {v : VoiceNum} {V W : Voice} (h : W ∈ (putVoice s v V).voices) :
    W = V ∨ W ∈ s.voices := (List.mem_or_eq_of_mem_set h).symm

/-- A command on one voice: nothing when the voice is out of range, else the voice replaced. -/
theorem onVoice_cases {s t : State} {v : VoiceNum} {f : Voice → Voice}
    (h : onVoice s v f = .next t) :
    (voiceAt s v = none ∧ t = s) ∨ ∃ V, voiceAt s v = some V ∧ t = putVoice s v (f V) := by
  unfold onVoice at h
  split at h
  · exact .inl ⟨‹_›, (Host.Outcome.next.inj h).symm⟩
  · exact .inr ⟨_, ‹_›, (Host.Outcome.next.inj h).symm⟩

theorem onVoice_some {s : State} {v : VoiceNum} {V : Voice} (f : Voice → Voice)
    (h : voiceAt s v = some V) : onVoice s v f = .next (putVoice s v (f V)) := by
  simp [onVoice, h]

theorem onVoice_none {s : State} {v : VoiceNum} (f : Voice → Voice) (h : voiceAt s v = none) :
    onVoice s v f = .next s := by simp [onVoice, h]

end Sys2Proof.Machine
end

