-- ==== Sys2Proof/Laws/Exec.lean ====
section
/-! SUPPORT. What executing any command can do, said once: nothing, a write of `DOUT`, or the
replacement of the named voice record. -/

namespace Sys2Proof.Machine

/-- What a command does to the voice record it names. -/
def voiceEffect (c : Cfg) (i : Instr) (V : Voice) : Voice :=
  match i with
  | .wrReg _ a d => regWrite c V a d
  | .keyOn _ => keyOnVoice V
  | .keyOff _ => keyOffVoice V
  | .sample _ => sampleVoice c V
  | .tick _ => tickVoice c V
  | .setCtrl _ n x => setCtrlVoice c n x V
  | .setPbend _ x => { V with pbend := x }
  | .nop => V
  | .rdReg _ _ => V
  | .rsvd9 => V
  | .rsvdA => V
  | .rsvdB => V
  | .rsvdC => V
  | .rsvdD => V
  | .rsvdE => V
  | .rsvdF => V

theorem exec_cases {i : Instr} {s t : State} (h : exec i s = .next t) :
    (t = s ∧ ∀ v, cmdVoice i = some v → voiceAt s v = none) ∨
      (∃ v a V, i = .rdReg v a ∧ voiceAt s v = some V ∧ t = putDout s (regRead s.cfg V a)) ∨
      ∃ v V, cmdVoice i = some v ∧ isReadCmd i = false ∧ voiceAt s v = some V ∧
        t = putVoice s v (voiceEffect s.cfg i V) := by
  have on : ∀ (v : VoiceNum) (f : Voice → Voice), cmdVoice i = some v → isReadCmd i = false →
      f = voiceEffect s.cfg i → onVoice s v f = .next t →
      (t = s ∧ ∀ v, cmdVoice i = some v → voiceAt s v = none) ∨
      (∃ v a V, i = .rdReg v a ∧ voiceAt s v = some V ∧ t = putDout s (regRead s.cfg V a)) ∨
      ∃ v V, cmdVoice i = some v ∧ isReadCmd i = false ∧ voiceAt s v = some V ∧
        t = putVoice s v (voiceEffect s.cfg i V) := by
    intro v f hv hr hf ho
    subst hf
    rcases onVoice_cases ho with ⟨hn, ht⟩ | ⟨V, hV, ht⟩
    · exact .inl ⟨ht, fun u hu => by rw [hv] at hu; cases hu; exact hn⟩
    · exact .inr (.inr ⟨v, V, hv, hr, hV, ht⟩)
  have none_cmd : exec i s = .next s → cmdVoice i = none →
      (t = s ∧ ∀ v, cmdVoice i = some v → voiceAt s v = none) := by
    intro he hn
    rw [he] at h
    exact ⟨(Host.Outcome.next.inj h).symm, fun v hv => by simp [hn] at hv⟩
  cases i with
  | wrReg v a d => exact on v _ rfl rfl rfl h
  | keyOn v => exact on v _ rfl rfl rfl h
  | keyOff v => exact on v _ rfl rfl rfl h
  | sample v => exact on v _ rfl rfl rfl h
  | tick v => exact on v _ rfl rfl rfl h
  | setCtrl v n x => exact on v _ rfl rfl rfl h
  | setPbend v x => exact on v _ rfl rfl rfl h
  | rdReg v a =>
    simp only [exec, execRdReg] at h
    split at h
    · exact .inl ⟨(Host.Outcome.next.inj h).symm, fun u hu => by
        simp only [cmdVoice, Option.some.injEq] at hu
        exact hu ▸ ‹_›⟩
    · exact .inr (.inl ⟨v, a, _, rfl, ‹_›, (Host.Outcome.next.inj h).symm⟩)
  | nop => exact .inl (none_cmd rfl rfl)
  | rsvd9 => exact .inl (none_cmd rfl rfl)
  | rsvdA => exact .inl (none_cmd rfl rfl)
  | rsvdB => exact .inl (none_cmd rfl rfl)
  | rsvdC => exact .inl (none_cmd rfl rfl)
  | rsvdD => exact .inl (none_cmd rfl rfl)
  | rsvdE => exact .inl (none_cmd rfl rfl)
  | rsvdF => exact .inl (none_cmd rfl rfl)

/-- What a command leaves alone: the configuration, and every voice that it does not name. -/
theorem exec_frame {i : Instr} {s t : State} (h : exec i s = .next t) :
    t.cfg = s.cfg ∧ ∀ u, cmdVoice i ≠ some u → voiceAt t u = voiceAt s u := by
  rcases exec_cases h with ⟨rfl, -⟩ | ⟨v, a, V, -, -, rfl⟩ | ⟨v, V, hv, -, -, rfl⟩
  · exact ⟨rfl, fun _ _ => rfl⟩
  · exact ⟨rfl, fun _ _ => rfl⟩
  · exact ⟨rfl, fun u hu => voiceAt_putVoice_ne _ fun e => hu (e ▸ hv)⟩

/-- Executing one command and then the rest. -/
theorem runCmds_cons_next {i : Instr} {s t : State} (l : List Instr) (h : exec i s = .next t) :
    runCmds (i :: l) s = runCmds l t := by simp only [runCmds, h]

/-- Executing a sequence and then another. -/
theorem runCmds_append_next {l : List Instr} (m : List Instr) :
    ∀ {s t : State}, runCmds l s = .next t → runCmds (l ++ m) s = runCmds m t := by
  induction l with
  | nil =>
    intro s t h
    rw [List.nil_append, Host.Outcome.next.inj h]
  | cons i l ih =>
    intro s t h
    simp only [runCmds, List.cons_append] at h ⊢
    split at h
    · exact ih h
    · cases h
    · cases h

end Sys2Proof.Machine
end

