-- ==== Sys2Proof/Laws/Lfo.lean ====
section
/-! SUPPORT. What one tick can change in a voice record (43_lfo.md, 44_pitch_eg.md). -/

namespace Sys2Proof.Machine

/-- Delay and fade write their two accumulators and the stage. -/
theorem lfoGate_frame (V : Voice) :
    lfoGate V =
      { V with
        lfoDelayAcc := (lfoGate V).lfoDelayAcc
        lfoFadeAcc := (lfoGate V).lfoFadeAcc
        lfoStage := (lfoGate V).lfoStage } := by
  unfold lfoGate
  split
  · simp only []
    split <;> rfl
  · simp only []
    split <;> rfl
  · rfl

/-- The LFO half of a tick writes the LFO's runtime state and nothing else. -/
theorem lfoTick_frame (c : Cfg) (V : Voice) :
    lfoTick c V =
      { V with
        lfoDelayAcc := (lfoTick c V).lfoDelayAcc
        lfoFadeAcc := (lfoTick c V).lfoFadeAcc
        lfoStage := (lfoTick c V).lfoStage
        lfoPhase := (lfoTick c V).lfoPhase
        lfoRand := (lfoTick c V).lfoRand
        lfoPout := (lfoTick c V).lfoPout
        lfoAout := (lfoTick c V).lfoAout } := by
  rw [lfoTick, lfoOutputs, lfoAdvance, lfoGate_frame]

/-- The pitch half of a tick writes the pitch envelope's runtime state and nothing else. -/
theorem pegTick_frame (V : Voice) :
    pegTick V =
      { V with
        pegToggle := !V.pegToggle
        pegCur := (pegTick V).pegCur
        pegStage := (pegTick V).pegStage } := by
  simp only [pegTick]
  split <;> rfl

/-- An update reads the registers and `PEG_CUR`, not the toggle. -/
theorem pegMoved_toggle (V : Voice) (b : Bool) : pegMoved { V with pegToggle := b } = pegMoved V := rfl

theorem pegTarget_le (V : Voice) : pegTarget V ≤ 0x7F80 := by
  have := (V.pegLevel.get (stageSeg V.pegStage)).isLt
  rw [pegTarget, Nat.shiftLeft_eq]
  omega

theorem pegMoved_le {V : Voice} (h : V.pegCur.toNat ≤ 0x7F80) : pegMoved V ≤ 0x7F80 := by
  have := (moveToward_between V.pegCur.toNat (pegTarget V) (pegInc V)).2
  have := pegTarget_le V
  unfold pegMoved
  omega

theorem lfoDepth_le (fade depth mix : Nat) : lfoDepth fade depth mix ≤ 255 := Nat.min_le_left _ _

theorem mixDest_le (c : Cfg) (V : Voice) (d : Nat) : mixDest c V d ≤ 255 := Nat.min_le_left _ _

/-- A wave value is at most 255. -/
theorem wave_le {c : Cfg} (h : c.wf = true) (w : BitVec 3) (p : BitVec 16) (r : BitVec 8) :
    wave c w p r ≤ 255 := by
  have ht := (p.extractLsb' 7 8).isLt
  have hb := (p.extractLsb' 8 8).isLt
  have hr := r.isLt
  unfold wave
  split
  · unfold waveTriangle
    simp only []
    split <;> omega
  · omega
  · omega
  · split <;> omega
  · unfold waveSine
    simp only []
    have := Cfg.wf_lfoSine_le h (if p.getLsbD 14 then 63 - (p.extractLsb' 8 6).toNat
      else (p.extractLsb' 8 6).toNat)
    split <;> omega
  · omega
  · omega

/-- A tick writes the runtime state of the LFO and of the pitch envelope and nothing else. -/
theorem tickVoice_frame (c : Cfg) (V : Voice) :
    tickVoice c V =
      { V with
        lfoDelayAcc := (tickVoice c V).lfoDelayAcc
        lfoFadeAcc := (tickVoice c V).lfoFadeAcc
        lfoStage := (tickVoice c V).lfoStage
        lfoPhase := (tickVoice c V).lfoPhase
        lfoRand := (tickVoice c V).lfoRand
        lfoPout := (tickVoice c V).lfoPout
        lfoAout := (tickVoice c V).lfoAout
        pegToggle := !V.pegToggle
        pegCur := (tickVoice c V).pegCur
        pegStage := (tickVoice c V).pegStage } := by
  rw [tickVoice, pegTick_frame, lfoTick_frame]

end Sys2Proof.Machine
end

