-- ==== Sys2Proof/Laws/Operands.lean ====
section
/-! SUPPORT. What a register write can change in a record (R101). -/

namespace Sys2Proof.Machine

/-- A write to an operator register leaves the operator's runtime state. -/
theorem opRegWrite_runtime (c : Cfg) (p : OpRec) (r : OpReg) (d : Data) :
    (opRegWrite c p r d).phase = p.phase ∧ (opRegWrite c p r d).egCur = p.egCur ∧
      (opRegWrite c p r d).egStage = p.egStage := by
  cases r <;> exact ⟨rfl, rfl, rfl⟩

/-- A write to a voice register leaves the six operator records and the voice's runtime state. -/
theorem voiceRegWrite_runtime (V : Voice) (r : VoiceReg) (d : Data) :
    voiceRegWrite V r d =
      { voiceRegWrite V r d with
        ops := V.ops, pegCur := V.pegCur, pegStage := V.pegStage, pegToggle := V.pegToggle
        lfoPhase := V.lfoPhase, lfoDelayAcc := V.lfoDelayAcc, lfoFadeAcc := V.lfoFadeAcc
        lfoStage := V.lfoStage, lfoRand := V.lfoRand, lfoPout := V.lfoPout, lfoAout := V.lfoAout
        mod := V.mod, mem := V.mem, sum := V.sum, fb1 := V.fb1, fb2 := V.fb2, out := V.out
        seq := V.seq } := by
  cases r with
  | alg =>
    simp only [voiceRegWrite]
    split <;> rfl
  | _ => rfl

/-- A register write does one of three things: one operator register, one voice register, or
nothing. -/
theorem regWrite_cases (c : Cfg) (V : Voice) (a : Addr) (d : Data) :
    (∃ o r, regAt a = .op o r ∧
        regWrite c V a d = { V with ops := V.ops.set o (opRegWrite c (V.ops.get o) r d) }) ∨
      (∃ r, regAt a = .voice r ∧ regWrite c V a d = voiceRegWrite V r d) ∨
      (((∃ r, regAt a = .status r) ∨ regAt a = .reserved) ∧ regWrite c V a d = V) := by
  unfold regWrite
  split
  · exact .inl ⟨_, _, ‹_›, rfl⟩
  · exact .inr (.inl ⟨_, ‹_›, rfl⟩)
  · exact .inr (.inr ⟨.inl ⟨_, ‹_›⟩, rfl⟩)
  · exact .inr (.inr ⟨.inr ‹_›, rfl⟩)

end Sys2Proof.Machine
end

