-- ==== Sys2Proof/Laws/PerInstr.lean ====
section
/-! SUPPORT. The statements made of every command, one lemma per constructor. -/

namespace Sys2Proof.Laws.EncodedOpcode

/-- The encoded word of a command carries its opcode in `W[31:28]` (R81, R82). -/
def Statement (i : Instr) : Prop := fieldOpc (encode i) = opcodeBits i.opcode

theorem nop : Statement .nop := fieldOpc_enc _ _ _ _
theorem wrReg (v : VoiceNum) (a : Addr) (d : Data) : Statement (.wrReg v a d) := fieldOpc_enc _ _ _ _
theorem rdReg (v : VoiceNum) (a : Addr) : Statement (.rdReg v a) := fieldOpc_enc _ _ _ _
theorem keyOn (v : VoiceNum) : Statement (.keyOn v) := fieldOpc_enc _ _ _ _
theorem keyOff (v : VoiceNum) : Statement (.keyOff v) := fieldOpc_enc _ _ _ _
theorem sample (v : VoiceNum) : Statement (.sample v) := fieldOpc_enc _ _ _ _
theorem tick (v : VoiceNum) : Statement (.tick v) := fieldOpc_enc _ _ _ _
theorem setCtrl (v : VoiceNum) (n : Addr) (x : BitVec 7) : Statement (.setCtrl v n x) :=
  fieldOpc_enc _ _ _ _
theorem setPbend (v : VoiceNum) (x : BitVec 14) : Statement (.setPbend v x) := fieldOpc_enc _ _ _ _
theorem rsvd9 : Statement .rsvd9 := fieldOpc_enc _ _ _ _
theorem rsvdA : Statement .rsvdA := fieldOpc_enc _ _ _ _
theorem rsvdB : Statement .rsvdB := fieldOpc_enc _ _ _ _
theorem rsvdC : Statement .rsvdC := fieldOpc_enc _ _ _ _
theorem rsvdD : Statement .rsvdD := fieldOpc_enc _ _ _ _
theorem rsvdE : Statement .rsvdE := fieldOpc_enc _ _ _ _
theorem rsvdF : Statement .rsvdF := fieldOpc_enc _ _ _ _

end Sys2Proof.Laws.EncodedOpcode
end

