-- ==== Sys2Proof/Laws/Router.lean ====
section
/-! SUPPORT. What one operator evaluation and one `SAMPLE` can change in a voice record
(42_ops_algorithm.md). -/

namespace Sys2Proof.Machine

theorem routeMem_eq (c : Cfg) (e : AlgEntry) (out : Int) (V : Voice) :
    routeMem c e out V =
      { V with mem := if e.mw then swrap c.accW ((if e.mr then V.mem else 0) + out) else V.mem } := by
  unfold routeMem
  split <;> rfl

theorem routeSum_eq (c : Cfg) (e : AlgEntry) (out : Int) (V : Voice) :
    routeSum c e out V = { V with sum := if e.car then swrap c.accW (V.sum + out) else V.sum } := by
  unfold routeSum
  split <;> rfl

theorem routeFb_eq (e : AlgEntry) (out : Int) (V : Voice) :
    routeFb e out V =
      { V with fb1 := if e.fben then out else V.fb1, fb2 := if e.fben then V.fb1 else V.fb2 } := by
  unfold routeFb
  split <;> rfl

/-- Routing changes the router registers and nothing else. -/
theorem route_frame (c : Cfg) (e : AlgEntry) (out : Int) (V : Voice) :
    route c e out V =
      { V with
        mem := (route c e out V).mem
        sum := (route c e out V).sum
        fb1 := (route c e out V).fb1
        fb2 := (route c e out V).fb2
        mod := (route c e out V).mod } := by
  simp only [route, routeMod, routeMem_eq, routeSum_eq, routeFb_eq]

/-- An evaluation changes one operator record and the router registers, and nothing else. -/
theorem opEval_frame (c : Cfg) (V : Voice) (o : OpNum) :
    opEval c V o =
      { V with
        ops := V.ops.set o (operatorClocked c V o)
        mem := (opEval c V o).mem
        sum := (opEval c V o).sum
        fb1 := (opEval c V o).fb1
        fb2 := (opEval c V o).fb2
        mod := (opEval c V o).mod } := by
  rw [opEval, route_frame]

@[simp] theorem opEval_ops (c : Cfg) (V : Voice) (o : OpNum) :
    (opEval c V o).ops = V.ops.set o (operatorClocked c V o) := by rw [opEval_frame]

@[simp] theorem opEval_alg (c : Cfg) (V : Voice) (o : OpNum) : (opEval c V o).alg = V.alg := by rw [opEval_frame]

@[simp] theorem opEval_fbl (c : Cfg) (V : Voice) (o : OpNum) : (opEval c V o).fbl = V.fbl := by rw [opEval_frame]

@[simp] theorem opEval_seq (c : Cfg) (V : Voice) (o : OpNum) : (opEval c V o).seq = V.seq := by rw [opEval_frame]

@[simp] theorem opEval_out (c : Cfg) (V : Voice) (o : OpNum) : (opEval c V o).out = V.out := by rw [opEval_frame]

@[simp] theorem opEval_pegCur (c : Cfg) (V : Voice) (o : OpNum) : (opEval c V o).pegCur = V.pegCur := by rw [opEval_frame]

/-- The state in which the router's selection is made: the record after the clock and the phase
advance. -/
def clockedVoice (c : Cfg) (V : Voice) (o : OpNum) : Voice :=
  { V with ops := V.ops.set o (operatorClocked c V o) }

theorem opEval_eq_route (c : Cfg) (V : Voice) (o : OpNum) :
    opEval c V o = route c (romEntry c V.alg o) (operatorOut c V o) (clockedVoice c V o) := rfl

/-- The increment of an operator reads its own record and the voice's pitch registers only. -/
theorem pinc_congr (c : Cfg) {V W : Voice} {o : OpNum} (ho : W.ops.get o = V.ops.get o)
    (h1 : W.vpitch = V.vpitch) (h2 : W.pbend = V.pbend) (h3 : W.pegCur = V.pegCur)
    (h4 : W.pms = V.pms) (h5 : W.lfoPout = V.lfoPout) : pinc c W o = pinc c V o := by
  simp only [pinc, operatorPitch, voicePitch, pbOff, pegOut, pmod, ho, h1, h2, h3, h4, h5]

theorem expLin_le {c : Cfg} (h : c.wf = true) (la : Nat) : expLin c la ≤ 16383 :=
  (Nat.shiftRight_le _ _).trans (Cfg.wf_expm_le h _)

/-- `SAMPLE` writes the six operator records, the router registers and `OUT`, and leaves `SEQ` 0;
every other field of the voice stays. -/
theorem sampleVoice_frame (c : Cfg) (V : Voice) :
    sampleVoice c V =
      { V with
        ops := (sampleVoice c V).ops
        mem := (sampleVoice c V).mem
        sum := (sampleVoice c V).sum
        fb1 := (sampleVoice c V).fb1
        fb2 := (sampleVoice c V).fb2
        mod := (sampleVoice c V).mod
        out := (sampleVoice c V).out
        seq := 0 } := by
  have key : ∀ (l : List OpNum) (W : Voice),
      l.foldl (seqEval c) W =
        { W with
          ops := (l.foldl (seqEval c) W).ops
          mem := (l.foldl (seqEval c) W).mem
          sum := (l.foldl (seqEval c) W).sum
          fb1 := (l.foldl (seqEval c) W).fb1
          fb2 := (l.foldl (seqEval c) W).fb2
          mod := (l.foldl (seqEval c) W).mod
          seq := (l.foldl (seqEval c) W).seq } := by
    intro l
    induction l with
    | nil => intro W; rfl
    | cons o l ih =>
      intro W
      rw [List.foldl_cons, ih (seqEval c W o), seqEval, opEval_frame]
  rw [sampleVoice, key evalOrder { V with sum := 0 }]

end Sys2Proof.Machine
end

