-- ==== Sys2Proof/Tests/Slice0.lean ====
section
/-! SUPPORT. Tests of the model: configurations that the checks refuse, words written out from the
encoding tables, the worked examples and vectors of spec/95_test_vectors.md (each test names its
source), and for every obligation with hypotheses a witness that meets them. -/

namespace Sys2Proof.Tests

set_option Elab.async false

open Sys2Proof Sys2Proof.Machine

/-! ### Helpers -/

/-- The reset voice of the default configuration. -/
def rv : Voice := Voice.reset defaultCfg

/-- The default engine with the given record as voice 0 and voice 1 at reset. -/
def one (V : Voice) : State := { State.reset with voices := [V, rv] }

/-- An operator in fixed mode, in Sustain, at a given pitch, phase and attenuation. -/
def held (pitch : BitVec 16) (phase egCur : Nat) : OpRec :=
  { OpRec.reset defaultCfg with
    pitch := pitch, mode := 1, phase := phase, egCur := egCur, egStage := .sustain }

/-- An operator at reset values `n` samples after its key-on: attenuation down by 4 a sample, phase
up by 256. -/
def silent (n : Nat) : OpRec :=
  { OpRec.reset defaultCfg with phase := 256 * n, egCur := 0xFFFFFF - 4 * n, egStage := .attack }

/-- Voice 0 after one command word, and the word on `DOUT`, from a given voice 0. -/
def after (w : Word) (V : Voice) : Option (Voice × Word) :=
  match step { one V with port := [w] } with
  | .next t => t.voices.head?.map fun W => (W, t.dout)
  | .fault _ => none
  | .refused _ => none

/-- A property of voice 0 and `DOUT` after one command word. -/
def check (w : Word) (V : Voice) (p : Voice → Word → Bool) : Bool :=
  match after w V with
  | some (W, x) => p W x
  | none => false

/-! ### WellFormed: a configuration that each check refuses (R6) -/

theorem test_default_accepted : defaultCfg.wf = true := by decide +kernel

theorem test_nvoice_zero_refused : { defaultCfg with nvoice := 0 }.wf = false := by decide +kernel
theorem test_nvoice_17_refused : { defaultCfg with nvoice := 17 }.wf = false := by decide +kernel
theorem test_widths_refused : { defaultCfg with accW := 0 }.wf = false := by decide +kernel
theorem test_fbBase_refused : { defaultCfg with fbBase := 6 }.wf = false := by decide +kernel
theorem test_lcg_refused : { defaultCfg with lcgA := 256 }.wf = false := by decide +kernel
theorem test_atNum_refused : { defaultCfg with atNum := 256 }.wf = false := by decide +kernel
theorem test_lsq_length_refused :
    { defaultCfg with lsq := { defaultLsq with size := 1023 } }.wf = false := by decide +kernel
theorem test_expm_increasing_refused :
    { defaultCfg with expm := { defaultExpm with image := 1 <<< 14 } }.wf = false := by
  decide +kernel
theorem test_freqm_low_refused :
    { defaultCfg with freqm := { defaultFreqm with image := 0 } }.wf = false := by decide +kernel
theorem test_lfoSine_refused : { defaultCfg with lfoSine := ⟨8, 64, 128⟩ }.wf = false := by
  decide +kernel
theorem test_egInc_length_refused : { defaultCfg with egInc := ⟨24, 63, 0⟩ }.wf = false := by
  decide +kernel
theorem test_pmsGain_refused : { defaultCfg with pmsGain := ⟨9, 8, 256⟩ }.wf = false := by
  decide +kernel
theorem test_amsGain_refused : { defaultCfg with amsGain := ⟨9, 4, 256⟩ }.wf = false := by
  decide +kernel
theorem test_compAtt_refused : { defaultCfg with compAtt := ⟨12, 7, 0⟩ }.wf = false := by
  decide +kernel
theorem test_algRom_refused :
    { defaultCfg with algRom := defaultAlgRom.take 31 }.wf = false := by decide +kernel

/-- A refused configuration builds no engine (93_implementation_defined.md, part 2). -/
theorem test_build_refuses : State.build? { defaultCfg with nvoice := 0 } = none := by
  decide +kernel

/-! ### Decode: one word for each constructor, written out from R81 and R82 (V-ENC, R90) -/

theorem test_decode_nop : decode 0x00000000 = .nop := by decide
theorem test_decode_wrReg : decode 0x112E002A = .wrReg 1 0x2E 0x2A := by decide
theorem test_decode_rdReg : decode 0x20E00000 = .rdReg 0 0xE0 := by decide
theorem test_decode_keyOn : decode 0x31000000 = .keyOn 1 := by decide
theorem test_decode_keyOff : decode 0x41000000 = .keyOff 1 := by decide
theorem test_decode_sample : decode 0x50000000 = .sample 0 := by decide
theorem test_decode_tick : decode 0x60000000 = .tick 0 := by decide
theorem test_decode_setCtrl : decode 0x7001FF80 = .setCtrl 0 1 0 := by decide
theorem test_decode_setPbend : decode 0x80FFFFFF = .setPbend 0 0x3FFF := by decide
theorem test_decode_rsvd9 : decode 0x90E10000 = .rsvd9 := by decide
theorem test_decode_rsvdA : decode 0xA0000001 = .rsvdA := by decide
theorem test_decode_rsvdB : decode 0xB0000000 = .rsvdB := by decide
theorem test_decode_rsvdC : decode 0xC0000000 = .rsvdC := by decide
theorem test_decode_rsvdD : decode 0xD0000000 = .rsvdD := by decide
theorem test_decode_rsvdE : decode 0xE0000000 = .rsvdE := by decide
theorem test_decode_rsvdF : decode 0xFFFFFFFF = .rsvdF := by decide
theorem test_encode_setCtrl : encode (.setCtrl 0 128 64) = 0x70800040 := by decide

/-! ### One step of each command (V-WR, V-RD, V-EG, V-RESET, P2, P4, P6, P7) -/

/-- R100: 0x0FFFFFFF leaves voice 0 and `DOUT` unchanged. -/
theorem test_nop : check 0x0FFFFFFF rv (fun W x => W == rv && x == 0) = true := by decide +kernel

/-- R101: `DETUNE` written with 0xFFF9 holds 9. -/
theorem test_wrReg_truncates :
    check 0x1002FFF9 rv (fun W _ => W.ops.op1.detune == 9 && W.ops.op2 == rv.ops.op2) = true := by
  decide +kernel

/-- R33: `ALG` written with 32 keeps its value. -/
theorem test_wrReg_alg : check 0x10600020 { rv with alg := 31 } (fun W _ => W.alg == 31) = true := by
  decide +kernel

/-- V-RD: an `OUT` of -2524 reads 0xFFFFF624. -/
theorem test_rdReg_out : check 0x20E00000 { rv with out := -2524 } (fun _ x => x == 0xFFFFF624) = true := by
  decide +kernel

/-- V-RD: `PEG_CUR` 0 reads -16384 at 0xE5. -/
theorem test_rdReg_peg : check 0x20E50000 { rv with pegCur := 0 } (fun _ x => x == 0xFFFFC000) = true := by
  decide +kernel

/-- R126 and R171: `KEY_ON` from End keeps the attenuation and sets the LFO phase under sync. -/
theorem test_keyOn :
    check 0x30000000 { rv with lfoSync := 1, lfoRand := 7 } (fun W _ =>
      W.ops.op1.egStage == .attack && W.ops.op1.egCur == 0xFFFFFF && W.pegStage == .attack &&
        W.lfoPhase == 0xFFFF && W.lfoRand == 7) = true := by decide +kernel

/-- R127: Sustain goes to Release, End stays. -/
theorem test_keyOff :
    check 0x40000000 { rv with ops := { rv.ops with op2 := held 0 0 0 } } (fun W _ =>
      W.ops.op2.egStage == .release && W.ops.op1.egStage == .ended) = true := by decide +kernel

/-- P6, sample 131: two modulators summed through `MEM`. -/
theorem test_sample_mem :
    check 0x50000000 { rv with
        alg := 6, mem := 1083
        ops := { op1 := silent 130, op2 := silent 130, op3 := held 0xB000 0x100000 0
                 op4 := { held 0xC000 0x200000 0x380000 with egLevel := PerSeg.const 14 }
                 op5 := { held 0xC800 0x7D8920 0x410000 with egLevel := PerSeg.const 16 }
                 op6 := silent 130 } } (fun W _ =>
      W.out == 7796 && W.mem == 873 && W.mod == 0 && W.fb1 == 0 &&
        W.ops.op5.phase == 0x9429B0 && W.ops.op4.phase == 0x300000) = true := by decide +kernel

/-- P7, sample 141: feedback around a chain. -/
theorem test_sample_feedback :
    check 0x50000000 { rv with
        alg := 3, fbl := 6, mod := 297, fb1 := 4239, fb2 := 5268
        ops := { op1 := silent 140, op2 := silent 140, op3 := silent 140
                 op4 := held 0xB000 0x600000 0, op5 := held 0xB000 0x600000 0x510000
                 op6 := held 0xB000 0x600000 0x510000 } } (fun W _ =>
      W.out == 3164 && W.mod == 231 && W.fb1 == 3164 && W.fb2 == 4239) = true := by decide +kernel

/-- The registers that P4 writes. -/
def p4 : Voice :=
  { rv with
    lfoInc := 0x1000, lfoDelayInc := 0x8000, lfoFadeInc := 0x4000, lfoPmd := 255, lfoAmd := 128
    pegRate := ⟨0x0C00, 0x0400, 0, 0⟩, pegLevel := ⟨0xC0, 0x80, 0x80, 0x80⟩, pegStage := .attack }

/-- P4, tick 6: the fade saturates, the pitch envelope reaches 0x6000. -/
theorem test_tick_fade_end :
    check 0x60000000 { p4 with
        lfoStage := .fade, lfoDelayAcc := 0xFFFF, lfoFadeAcc := 0xC000, lfoPhase := 0x4FFF
        pegToggle := true, pegCur := 0x5800 } (fun W _ =>
      W.lfoStage == .steady && W.lfoFadeAcc == 0xFFFF && W.lfoPhase == 0x5FFF &&
        W.lfoPout == 62 && W.lfoAout == 94 && W.pegToggle == false && W.pegCur == 0x6000 &&
        W.pegStage == .decay1) = true := by decide +kernel

/-- P4, tick 17: the wrap steps the generator (R175: from 0 comes 11). -/
theorem test_tick_wrap :
    check 0x60000000 { p4 with lfoStage := .steady, lfoFadeAcc := 0xFFFF, lfoPhase := 0xFFFF }
      (fun W _ => W.lfoPhase == 0x0FFF && W.lfoRand == 11 && W.lfoPout.toInt == -97 &&
        W.lfoAout == 15 && W.pegCur == 0x4000) = true := by decide +kernel

/-- R107: controller 4 is the foot, `D[15:7]` is ignored. -/
theorem test_setCtrl_foot :
    check 0x7004FFFF rv (fun W _ => W.mixRaw == ⟨0, 127, 0, 0⟩) = true := by decide +kernel

/-- R107: controller 64 changes nothing. -/
theorem test_setCtrl_64 : check 0x7040007F rv (fun W _ => W == rv) = true := by decide +kernel

/-- R108: full bend, an offset of +1023. -/
theorem test_setPbend :
    check 0x80003FFF rv (fun W _ => W.pbend == 0x3FFF && pbOff defaultCfg W == 1023) = true := by
  decide +kernel

/-- R111: a reserved opcode changes nothing. -/
theorem test_rsvd : check 0x9000FFFF rv (fun W x => W == rv && x == 0) = true := by decide +kernel

/-- V-EG: the first clock after key-on with rate code 63 toward level 0. -/
theorem test_egClock :
    egClock defaultCfg { OpRec.reset defaultCfg with
      egRate := PerSeg.const 63, egLevel := PerSeg.const 0, egStage := .attack } =
    { OpRec.reset defaultCfg with
      egRate := PerSeg.const 63, egLevel := PerSeg.const 0, egCur := 0xFC7FFF
      egStage := .attack } := by decide +kernel

/-- R158 (b) and R160: row 31 has six carriers and routes nothing but operator 6's feedback. -/
theorem test_algorithm32_row :
    (OpNum.all.map fun o => ((romEntry defaultCfg 31 o).car, (romEntry defaultCfg 31 o).sel)) =
      [(true, .fbPair), (true, .zero), (true, .zero), (true, .zero), (true, .zero),
        (true, .zero)] := by decide +kernel

/-! ### Witnesses: concrete inputs that meet the hypotheses of the obligations, one theorem for each
obligation that has some, with a boundary value for each of its clauses -/

theorem first_voice : voiceAt State.reset 0 = some rv := by decide +kernel
theorem last_voice : voiceAt State.reset 1 = some rv := by decide +kernel
theorem one_voice (V : Voice) : voiceAt (one V) 0 = some V := by
  simp [voiceAt, one, State.reset, State.resetWith, defaultCfg]

/-- Voice 2 is the first out of range. -/
theorem first_absent : State.reset.cfg.nvoice ≤ (2 : VoiceNum).toNat := by decide +kernel

theorem reset_wf : State.reset.wf = true := by
  have h : (State.reset.cfg).wf = true := test_default_accepted
  rw [State.wf, h]
  decide +kernel

/-- The default engine with one word on its port. -/
def fed (w : Word) : State := { State.reset with port := [w] }

theorem witness_DecodeOfEncode :
    Instr.wf .nop = true ∧ Instr.wf (.wrReg 15 255 65535) = true ∧
      Instr.wf (.setCtrl 15 255 127) = true := by decide

theorem witness_StepRunsTheDecodedCommand :
    (fed 0x31000000).port = 0x31000000 :: [] ∧ State.reset.port = [] := ⟨rfl, rfl⟩

theorem witness_StepIsTotal : exec (decode 0xFFFFFFFF) State.reset = .next State.reset := by
  rw [test_decode_rsvdF]
  rfl

theorem witness_ReservedOpcodesChangeNothing :
    9 ≤ (0x9 : OpcBits).toNat ∧ 9 ≤ (0xF : OpcBits).toNat := by decide

theorem witness_OutOfRangeVoiceIgnored :
    State.reset.cfg.nvoice ≤ (fieldV 0x32000000).toNat := by decide +kernel

/-- The first and the last address of every range of R42, with what R21, R32 and R43 put there. -/
def rangeEnds : List (Addr × Reg) :=
  [(0x00, .op .op1 .pitch), (0x5F, .op .op6 (.egLevel .release)), (0x60, .voice .alg),
    (0x83, .voice (.mixRaw .afterTouch)), (0xE0, .status .out), (0xE5, .status .pegOut),
    (0xE8, .status (.egAtt .op1)), (0xED, .status (.egAtt .op6)), (0xF0, .status (.egStage .op1)),
    (0xF5, .status (.egStage .op6))]

/-- The first and the last address of every reserved range of R42. -/
def reservedEnds : List Addr :=
  [0x06, 0x57, 0x65, 0x67, 0x77, 0x84, 0xDF, 0xE6, 0xE7, 0xEE, 0xEF, 0xF6, 0xFF]

/-- A boundary address of every clause, and a voice to read and write it in. -/
theorem witness_RegisterMapIsComplete :
    (rangeEnds.all fun e => regAt e.1 == e.2) = true ∧
      (reservedEnds.all fun a => regAt a == .reserved) = true ∧
      voiceAt State.reset 1 = some rv :=
  ⟨by decide, by decide, last_voice⟩

theorem witness_WriteOperatorRegister :
    voiceAt State.reset 0 = some rv ∧ voiceAt State.reset 1 = some rv := ⟨first_voice, last_voice⟩

theorem witness_WriteVoiceRegister :
    voiceAt State.reset 1 = some rv ∧ VoiceReg.fbl ≠ .alg := ⟨last_voice, by decide⟩

theorem witness_WriteAlgorithmRegister :
    voiceAt State.reset 1 = some rv ∧ (31 : Data).toNat ≤ 31 ∧ 31 < (32 : Data).toNat :=
  ⟨last_voice, by decide, by decide⟩

theorem witness_WriteHeldValueChangesNothing :
    State.reset.wf = true ∧ voiceAt State.reset 1 = some rv ∧
      (63 : Data).toNat = (regRead State.reset.cfg rv 0x0C).toNat % 65536 :=
  ⟨reset_wf, last_voice, by decide +kernel⟩

theorem witness_ReadStoredPattern :
    State.reset.wf = true ∧ voiceAt State.reset 1 = some rv := ⟨reset_wf, last_voice⟩

/-- `COMPLETE` both ways: every stage End, and one that is not. -/
theorem witness_ReadStatusValues :
    State.reset.wf = true ∧ voiceAt State.reset 1 = some rv ∧
      (rv.ops.get .op6).egStage.code = 5 ∧ ((keyOnVoice rv).ops.get .op6).egStage.code ≠ 5 :=
  ⟨reset_wf, last_voice, by decide +kernel, by decide +kernel⟩

theorem witness_KeyOnGatesTheVoice :
    State.reset.cfg.nvoice ≤ (2 : VoiceNum).toNat ∧ voiceAt State.reset 1 = some rv :=
  ⟨first_absent, last_voice⟩

theorem witness_KeyOffReleasesTheVoice :
    State.reset.cfg.nvoice ≤ (2 : VoiceNum).toNat ∧ voiceAt State.reset 1 = some rv :=
  ⟨first_absent, last_voice⟩

theorem witness_SetControllerWritesOneSource :
    State.reset.cfg.nvoice ≤ (2 : VoiceNum).toNat ∧ voiceAt State.reset 1 = some rv ∧
    ((128 : Addr).toNat = State.reset.cfg.atNum ∧ (128 : Addr) ∉ [1, 4, 2, 64, 65]) ∧
    ((64 : Addr) ∉ [1, 4, 2] ∧ (64 : Addr).toNat ≠ State.reset.cfg.atNum) ∧
    ((65 : Addr) ∉ [1, 4, 2] ∧ (65 : Addr).toNat ≠ State.reset.cfg.atNum) :=
  ⟨first_absent, last_voice, by decide +kernel, by decide +kernel, by decide +kernel⟩

theorem witness_SetPitchBendWritesTheBend :
    State.reset.cfg.nvoice ≤ (2 : VoiceNum).toNat ∧ voiceAt State.reset 1 = some rv ∧
      defaultCfg.pbShift = 3 := ⟨first_absent, last_voice, by decide +kernel⟩

theorem witness_KeyOnRestartsTheLfo :
    (voiceAt (one { rv with lfoSync := 1 }) 0 = some { rv with lfoSync := 1 } ∧
      ({ rv with lfoSync := 1 }).lfoSync = 1) ∧
    voiceAt State.reset 1 = some rv ∧ rv.lfoSync ≠ 1 :=
  ⟨⟨one_voice _, rfl⟩, last_voice, by decide +kernel⟩

theorem witness_SampleClocksEveryOperatorOnce : voiceAt State.reset 1 = some rv := last_voice

theorem witness_SampleEvaluatesSixDownToOne : voiceAt State.reset 1 = some rv := last_voice

theorem witness_OneOperatorEvaluationInOrder : defaultCfg.wf = true := test_default_accepted

theorem witness_WaveIsReflected : defaultCfg.wf = true ∧ 0 < 2048 ∧ 2047 < 2048 :=
  ⟨test_default_accepted, by decide, by decide⟩

theorem witness_ExponentialFallsToZero :
    defaultCfg.wf = true ∧ tbl defaultCfg.expm 0 / 2 ≤ tbl defaultCfg.expm 1023 ∧ 1023 ≤ 1024 ∧
      14336 ≤ 14336 := ⟨test_default_accepted, by decide +kernel, by decide, le_refl _⟩

theorem witness_Algorithm32IsAdditive :
    (one { rv with alg := 31 }).cfg.wf = true ∧ (one { rv with alg := 31 }).cfg.accW = 18 ∧
      (one { rv with alg := 31 }).cfg.algRom = defaultAlgRom ∧
      voiceAt (one { rv with alg := 31 }) 0 = some { rv with alg := 31 } ∧
      ({ rv with alg := 31 }).alg = 31 ∧ ({ rv with alg := 31 }).fbl = 0 ∧
      ({ rv with alg := 31 }).mod = 0 :=
  ⟨test_default_accepted, rfl, rfl, one_voice _, rfl, rfl, rfl⟩

/-- The ends of the code range, and two records in order. -/
theorem witness_LevelsAreMonotone :
    0 < 64 ∧ 63 < 64 ∧ 62 < 63 ∧
      (held 0 0 0).egLevel.get (stageSeg .sustain) < 64 ∧
      ({ held 0 0 0 with egLevel := PerSeg.const 62 }).egLevel.get (stageSeg .sustain) ≤
        (held 0 0 0).egLevel.get (stageSeg .sustain) ∧
      ({ held 0 0 0 with egLevel := PerSeg.const 62 }).olatt.toNat ≤ (held 0 0 0).olatt.toNat := by
  decide +kernel

/-- A voice whose six operators are in Sustain. -/
def sustained : Voice := { rv with ops := PerOp.const (held 0 0 0) }

/-- A Decay2 that ends; a voice in Sustain, and commands that are no gate of it. -/
theorem witness_SustainHolds :
    (({ held 0 0 0xFF0000 with egStage := .decay2 } : OpRec).egStage = .decay2 ∧
      (egClock defaultCfg { held 0 0 0xFF0000 with egStage := .decay2 }).egStage = .sustain) ∧
    voiceAt (one sustained) 0 = some sustained ∧ (sustained.ops.get .op1).egStage = .sustain ∧
      (∀ i ∈ [Instr.sample 0, .wrReg 0 0x0E 5, .keyOn 1], i ≠ .keyOn 0 ∧ i ≠ .keyOff 0) :=
  ⟨by decide +kernel, one_voice _, by decide +kernel, by decide⟩

/-- A voice in Attack, `n` above its target 0xFF0000. -/
def attacking (n : Nat) : Voice :=
  { rv with ops := PerOp.const { held 0 0 (0xFF0000 + n) with egStage := .attack } }

/-- At the target already, one sample away, and three samples away, at 4 a sample. -/
theorem witness_EnvelopeReachesItsTarget :
    (voiceAt (one (attacking 0)) 0 = some (attacking 0) ∧
      ((attacking 0).ops.get .op1).egCur =
        egTarget defaultCfg ((attacking 0).ops.get .op1) .attack) ∧
    (voiceAt (one (attacking 4)) 0 = some (attacking 4) ∧
      ((attacking 4).ops.get .op1).egCur -
          egTarget defaultCfg ((attacking 4).ops.get .op1) .attack ≤
        (0 + 1) * egInc defaultCfg ((attacking 4).ops.get .op1) .attack) ∧
    (voiceAt (one (attacking 10)) 0 = some (attacking 10) ∧
      2 * egInc defaultCfg ((attacking 10).ops.get .op1) .attack <
        ((attacking 10).ops.get .op1).egCur -
          egTarget defaultCfg ((attacking 10).ops.get .op1) .attack ∧
      ((attacking 10).ops.get .op1).egCur -
          egTarget defaultCfg ((attacking 10).ops.get .op1) .attack ≤
        (2 + 1) * egInc defaultCfg ((attacking 10).ops.get .op1) .attack) :=
  ⟨⟨one_voice _, by decide +kernel⟩, ⟨one_voice _, by decide +kernel⟩, one_voice _,
    by decide +kernel, by decide +kernel⟩

theorem key_on_next :
    exec (.keyOn 0) State.reset = .next (putVoice State.reset 0 (keyOnVoice rv)) ∧
      voiceAt State.reset 0 = some rv ∧
      voiceAt (putVoice State.reset 0 (keyOnVoice rv)) 0 = some (keyOnVoice rv) :=
  ⟨onVoice_some keyOnVoice first_voice, first_voice, voiceAt_putVoice_same _ first_voice⟩

theorem key_off_next :
    exec (.keyOff 0) State.reset = .next (putVoice State.reset 0 (keyOffVoice rv)) ∧
      voiceAt State.reset 0 = some rv ∧
      voiceAt (putVoice State.reset 0 (keyOffVoice rv)) 0 = some (keyOffVoice rv) :=
  ⟨onVoice_some keyOffVoice first_voice, first_voice, voiceAt_putVoice_same _ first_voice⟩

/-- End is left by `KEY_ON`; a command that is no gate; a write. -/
theorem witness_StagesMoveForwardOnly :
    (exec (.keyOn 0) State.reset = .next (putVoice State.reset 0 (keyOnVoice rv)) ∧
      voiceAt State.reset 0 = some rv ∧
      voiceAt (putVoice State.reset 0 (keyOnVoice rv)) 0 = some (keyOnVoice rv)) ∧
    (rv.ops.get .op1).egStage.code = 5 ∧ ((keyOnVoice rv).ops.get .op1).egStage.code ≠ 5 ∧
    Instr.sample 0 ≠ .keyOn 0 ∧ Instr.sample 0 ≠ .keyOff 0 ∧
    isWriteCmd (.wrReg 0 0 0) = true :=
  ⟨key_on_next, by decide +kernel, by decide +kernel, by decide, by decide, by decide⟩

theorem witness_RateScalingHasNoEffect :
    eraseRs (one { rv with ops := PerOp.const { OpRec.reset defaultCfg with rs := 7 } }) =
      eraseRs (one rv) ∧
    (∀ v a, Instr.rdReg 0 0x06 = .rdReg v a → isRsAddr a = false) := by
  refine ⟨?_, ?_⟩
  · simp [eraseRs, one, rv, PerOp.map, PerOp.const, Voice.reset]
  · intro v a h
    cases h
    decide

/-- Each stage, the delay and the fade with a sum at either side of the saturation. -/
theorem witness_TickMovesTheLfo :
    (voiceAt State.reset 1 = some rv ∧ rv.lfoStage = .delay ∧
      (0x7FFF : BitVec 16).toNat + (0x7FFF : BitVec 16).toNat < 0xFFFF ∧
      0xFFFF ≤ (0x8000 : BitVec 16).toNat + (0x7FFF : BitVec 16).toNat) ∧
    (voiceAt (one { rv with lfoStage := .fade }) 0 = some { rv with lfoStage := .fade } ∧
      ({ rv with lfoStage := .fade }).lfoStage = .fade) ∧
    voiceAt (one { rv with lfoStage := .steady }) 0 = some { rv with lfoStage := .steady } ∧
      ({ rv with lfoStage := .steady }).lfoStage = .steady :=
  ⟨⟨last_voice, by decide +kernel, by decide, by decide⟩, ⟨one_voice _, rfl⟩, one_voice _, rfl⟩

theorem witness_TickComputesTheOutputs :
    State.reset.cfg.wf = true ∧ voiceAt State.reset 1 = some rv :=
  ⟨test_default_accepted, last_voice⟩

theorem witness_ReservedWavesAreCentred :
    (voiceAt (one { rv with lfoWave := 6 }) 0 = some { rv with lfoWave := 6 } ∧
      ({ rv with lfoWave := 6 }).lfoWave = 6) ∧
    voiceAt (one { rv with lfoWave := 7 }) 0 = some { rv with lfoWave := 7 } ∧
      ({ rv with lfoWave := 7 }).lfoWave = 7 := ⟨⟨one_voice _, rfl⟩, one_voice _, rfl⟩

/-- The last tick of a delay and the tick that ends it. -/
theorem witness_DelayLengthInTicks :
    voiceAt (one { rv with lfoDelayInc := 0x8000 }) 0 = some { rv with lfoDelayInc := 0x8000 } ∧
      ({ rv with lfoDelayInc := 0x8000 }).lfoStage = .delay ∧
      ({ rv with lfoDelayInc := 0x8000 }).lfoDelayAcc = 0 ∧
      1 * (0x8000 : BitVec 16).toNat < 0xFFFF ∧ ¬ 2 * (0x8000 : BitVec 16).toNat < 0xFFFF :=
  ⟨one_voice _, by decide +kernel, by decide +kernel, by decide, by decide⟩

/-- Both values of the toggle; the top of the range and the least rate that reaches any target. -/
theorem witness_TickMovesThePitchEnvelope :
    (voiceAt State.reset 1 = some rv ∧ rv.pegToggle = false) ∧
    (voiceAt (one { rv with pegToggle := true }) 0 = some { rv with pegToggle := true } ∧
      ({ rv with pegToggle := true }).pegToggle = true) ∧
    (0x7F80 : BitVec 15).toNat ≤ 0x7F80 ∧ 0x7F80 ≤ (0x7F80 : BitVec 16).toNat :=
  ⟨⟨last_voice, by decide +kernel⟩, ⟨one_voice _, rfl⟩, by decide, by decide⟩

/-- No source assigned to EG bias, and one. -/
theorem witness_MixerSumsAreClamped :
    (∀ k, (rv.mixAssign.get k).getLsbD 2 = false) ∧
      ∃ k, (({ rv with mixAssign := PerCtrl.const 4 }).mixAssign.get k).getLsbD 2 = true := by
  constructor
  · intro k
    cases k <;> rfl
  · exact ⟨.foot, rfl⟩

theorem witness_AmplitudeModulationIsBounded :
    defaultCfg.wf = true ∧ tbl defaultCfg.amsGain (rv.ops.get .op1).ams.toNat = 0 ∧
      defaultCfg.amsGain = defaultAmsGain ∧ (rv.ops.get .op1).ams = 0 :=
  ⟨test_default_accepted, by decide +kernel, rfl, by decide +kernel⟩

theorem witness_VoicePitchAddsBendAndEnvelope :
    defaultCfg.pbShift = 3 ∧ ({ rv with pegCur := 0x7F80 }).pegCur.toNat ≤ 0x7F80 ∧
      ({ rv with pegCur := 0x7F80 }).pbend = 0x2000 := by decide +kernel

theorem witness_OperatorPitchIsClamped :
    (sustained.ops.get .op1).mode = 1 ∧ (rv.ops.get .op1).mode = 0 := by decide +kernel

/-- The last pair an octave apart. -/
theorem witness_PhaseIncrementDoublesPerOctave :
    defaultCfg.wf = true ∧ 24 ≤ defaultCfg.phaseW ∧ 0xEFFF ≤ 0xFFFF ∧ 0xFFFF ≤ 0xFFFF ∧
      0xEFFF + 4096 ≤ 0xFFFF :=
  ⟨test_default_accepted, by decide +kernel, by decide, by decide, by decide⟩

theorem witness_VoicesAreIndependent :
    cmdVoice (.keyOn 0) = some 0 ∧
    exec (.keyOn 0) State.reset = .next (putVoice State.reset 0 (keyOnVoice rv)) ∧
    (1 : VoiceNum) ≠ 0 ∧ isReadCmd (.keyOn 0) = false ∧
    voiceAt (putVoice State.reset 1 (keyOnVoice rv)) 0 = voiceAt State.reset 0 ∧
    (isReadCmd (.rdReg 0 0xE0) = true ∧ voiceAt State.reset 0 ≠ none) ∧
    fieldV 0x30000000 ≠ fieldV 0x21E00000 ∧
      ¬ (isReadCmd (decode 0x30000000) = true ∧ isReadCmd (decode 0x21E00000) = true) :=
  ⟨rfl, key_on_next.1, by decide, rfl, voiceAt_putVoice_ne _ (by decide),
    ⟨rfl, fun h => Option.some_ne_none _ (first_voice.symm.trans h)⟩, by decide, by decide⟩

theorem witness_ConfigurationIsFixed :
    exec (.keyOn 0) State.reset = .next (putVoice State.reset 0 (keyOnVoice rv)) ∧
      step State.reset = .next State.reset := ⟨key_on_next.1, rfl⟩

theorem witness_OnlySampleMovesTheSound :
    exec (.keyOn 0) State.reset = .next (putVoice State.reset 0 (keyOnVoice rv)) ∧
      voiceAt State.reset 0 = some rv ∧
      voiceAt (putVoice State.reset 0 (keyOnVoice rv)) 0 = some (keyOnVoice rv) ∧
      Instr.keyOn 0 ≠ .sample 0 := ⟨key_on_next.1, key_on_next.2.1, key_on_next.2.2, by decide⟩

theorem witness_OnlyTickAndKeyOnMoveTheLfo :
    exec (.keyOff 0) State.reset = .next (putVoice State.reset 0 (keyOffVoice rv)) ∧
      voiceAt State.reset 0 = some rv ∧
      voiceAt (putVoice State.reset 0 (keyOffVoice rv)) 0 = some (keyOffVoice rv) ∧
      Instr.keyOff 0 ≠ .tick 0 ∧ Instr.keyOff 0 ≠ .keyOn 0 :=
  ⟨key_off_next.1, key_off_next.2.1, key_off_next.2.2, by decide, by decide⟩

theorem witness_OnlyWritesChangeRegisters :
    exec (.keyOff 0) State.reset = .next (putVoice State.reset 0 (keyOffVoice rv)) ∧
      voiceAt State.reset 0 = some rv ∧
      voiceAt (putVoice State.reset 0 (keyOffVoice rv)) 0 = some (keyOffVoice rv) ∧
      (Instr.keyOff 0).opcode ≠ .wrReg ∧ (Instr.keyOff 0).opcode ≠ .setCtrl ∧
      (Instr.keyOff 0).opcode ≠ .setPbend :=
  ⟨key_off_next.1, key_off_next.2.1, key_off_next.2.2, by decide, by decide, by decide⟩

theorem witness_ProgramVoiceIsIdempotent : voiceAt State.reset 1 = some rv := last_voice

theorem witness_GateOnWritesThenKeysOn : voiceAt State.reset 1 = some rv := last_voice

/-- The list clause with both voices sounding, and with none. -/
theorem witness_HostReadsTheSample :
    State.reset.wf = true ∧ voiceAt State.reset 1 = some rv ∧
      ([1, 0] : List VoiceNum).Nodup ∧ ([] : List VoiceNum).Nodup ∧
      (∀ v ∈ ([1, 0] : List VoiceNum), v.toNat < State.reset.cfg.nvoice) ∧
      ([1, 0] : List VoiceNum) = [1] ++ 0 :: [] :=
  ⟨reset_wf, last_voice, by decide, by decide, by decide +kernel, rfl⟩

/-- R228: `sample()` over two sounding voices. -/
theorem test_sampleCall :
    sampleCall [0, 1] = [.sample 0, .rdReg 0 0xE0, .rdReg 0 0xE1, .sample 1, .rdReg 1 0xE0,
      .rdReg 1 0xE1] := by decide

theorem witness_BuildChecksTheConfiguration :
    defaultCfg.wf = true ∧ { defaultCfg with nvoice := 17 }.wf = false :=
  ⟨test_default_accepted, test_nvoice_17_refused⟩

theorem witness_ResetValuesAreTheSpecs :
    defaultCfg.lcgSeed < 256 ∧ defaultCfg.egW = 24 ∧ (1 : VoiceNum).toNat < defaultCfg.nvoice := by
  decide +kernel

theorem witness_ResetMeetsTheInvariants :
    defaultCfg.wf = true ∧ defaultAttWidths defaultCfg = true :=
  ⟨test_default_accepted, by decide +kernel⟩

theorem witness_BehaviourAfterReset :
    defaultCfg.wf = true ∧ defaultAttWidths defaultCfg = true ∧
      (1 : VoiceNum).toNat < defaultCfg.nvoice :=
  ⟨test_default_accepted, by decide +kernel, by decide +kernel⟩

theorem witness_StepKeepsTheState : defaultCfg.wf = true ∧ State.reset.wf = true :=
  ⟨test_default_accepted, reset_wf⟩

theorem witness_UnprogrammedVoicesStaySilent :
    State.reset.wf = true ∧ defaultAttWidths State.reset.cfg = true ∧
      State.reset.unprogrammed = true ∧ isWriteCmd (.sample 0) = false ∧
      exec (.sample 0) State.reset =
        .next (putVoice State.reset 0 (sampleVoice State.reset.cfg rv)) :=
  ⟨reset_wf, by decide +kernel, by decide +kernel, by decide, onVoice_some _ first_voice⟩

theorem witness_NoWriteMeansSilence :
    defaultCfg.wf = true ∧ defaultAttWidths defaultCfg = true ∧
      (∀ i ∈ [Instr.keyOn 0, .sample 0, .setCtrl 0 1 127], isWriteCmd i = false) :=
  ⟨test_default_accepted, by decide +kernel, by decide⟩

theorem witness_AccumulatorsDoNotOverflow :
    State.reset.wf = true ∧ State.reset.cfg.accW = 18 ∧
      State.reset.cfg.algRom = defaultAlgRom ∧ State.reset.noWrap = true ∧
      exec (.sample 0) State.reset =
        .next (putVoice State.reset 0 (sampleVoice State.reset.cfg rv)) :=
  ⟨reset_wf, rfl, rfl, by decide +kernel, onVoice_some _ first_voice⟩

end Sys2Proof.Tests
end

section
/-! PROOFS. Totality and determinism of execution (R10): every command answers a next state, and it
is the only one. -/

namespace Sys2Proof.Machine

/-- A command on one voice answers a next state, whether or not the voice exists (R85). -/
theorem onVoice_total (s : State) (v : VoiceNum) (f : Voice → Voice) :
    ∃ t, onVoice s v f = .next t := by
  cases h : voiceAt s v with
  | none => exact ⟨s, onVoice_none f h⟩
  | some V => exact ⟨putVoice s v (f V), onVoice_some f h⟩

theorem execRdReg_none {s : State} {v : VoiceNum} (a : Addr) (h : voiceAt s v = none) :
    execRdReg v a s = .next s := by simp [execRdReg, h]

theorem execRdReg_some {s : State} {v : VoiceNum} {V : Voice} (a : Addr)
    (h : voiceAt s v = some V) : execRdReg v a s = .next (putDout s (regRead s.cfg V a)) := by
  simp [execRdReg, h]

/-- A register read answers a next state, whether or not the voice exists (R104). -/
theorem execRdReg_total (s : State) (v : VoiceNum) (a : Addr) :
    ∃ t, execRdReg v a s = .next t := by
  cases h : voiceAt s v with
  | none => exact ⟨s, execRdReg_none a h⟩
  | some V => exact ⟨_, execRdReg_some a h⟩

/-- No command faults or is refused, in any state (R10, R240): a command is on one voice, the
register read, or one without effect. -/
theorem exec_total (i : Instr) (s : State) : ∃ t, exec i s = .next t := by
  cases i with
  | wrReg v a d => exact onVoice_total s v _
  | keyOn v => exact onVoice_total s v _
  | keyOff v => exact onVoice_total s v _
  | sample v => exact onVoice_total s v _
  | tick v => exact onVoice_total s v _
  | setCtrl v n x => exact onVoice_total s v _
  | setPbend v x => exact onVoice_total s v _
  | rdReg v a => exact execRdReg_total s v a
  | nop => exact ⟨s, rfl⟩
  | rsvd9 => exact ⟨s, rfl⟩
  | rsvdA => exact ⟨s, rfl⟩
  | rsvdB => exact ⟨s, rfl⟩
  | rsvdC => exact ⟨s, rfl⟩
  | rsvdD => exact ⟨s, rfl⟩
  | rsvdE => exact ⟨s, rfl⟩
  | rsvdF => exact ⟨s, rfl⟩

/-- The next state of a command is unique. -/
theorem exec_next_unique {i : Instr} {s t t' : State} (h : exec i s = .next t)
    (h' : exec i s = .next t') : t' = t :=
  Host.Outcome.next.inj (h'.symm.trans h)

/-- Settles O6: `exec_total` gives the next state of the decoded word, `exec_next_unique` says that
it and its `DOUT` are the only ones. -/
theorem stepIsTotal : Obligations.StepIsTotal := by
  refine ⟨fun s w => ?_, exec_total⟩
  obtain ⟨t, ht⟩ := exec_total (decode w) s
  refine ⟨t, ht, fun t' ht' => ?_⟩
  have heq : t' = t := exec_next_unique ht ht'
  exact ⟨heq, congrArg State.dout heq⟩

end Sys2Proof.Machine
end

section
/-! PROOFS. Building an engine from a configuration (R6; 93_implementation_defined.md, part 2): what
each check of the shape gives, and that building is exactly passing the checks. -/

namespace Sys2Proof

open Machine

/-- A table of `n` entries, each at most `m`. -/
theorem romHas_le_iff (t : Rom) (n m : Nat) :
    romHas t n (· ≤ m) = true ↔ t.size = n ∧ ∀ i, i < n → tbl t i ≤ m := by
  simp only [romHas_iff, decide_eq_true_eq]

/-- A test of neighbouring entries makes a table non-decreasing. -/
theorem tbl_mono_of_adjacent {t : Rom} {n : Nat} (h : ∀ i, i < n → tbl t i ≤ tbl t (i + 1)) :
    ∀ i j, i ≤ j → j < n + 1 → tbl t i ≤ tbl t j := by
  have hmono : MonotoneOn (tbl t) (Set.Iio (n + 1)) :=
    monotoneOn_of_le_add_one Set.ordConnected_Iio fun i _ _ hi => h i (Nat.lt_of_succ_lt_succ hi)
  exact fun i j hij hj => hmono (hij.trans_lt hj) hj hij

/-- A test of neighbouring entries makes a table non-increasing. -/
theorem tbl_anti_of_adjacent {t : Rom} {n : Nat} (h : ∀ i, i < n → tbl t (i + 1) ≤ tbl t i) :
    ∀ i j, i ≤ j → j < n + 1 → tbl t j ≤ tbl t i := by
  have hanti : AntitoneOn (tbl t) (Set.Iio (n + 1)) :=
    antitoneOn_of_add_one_le Set.ordConnected_Iio fun i _ _ hi => h i (Nat.lt_of_succ_lt_succ hi)
  exact fun i j hij hj => hanti (hij.trans_lt hj) hj hij

theorem Cfg.lcgOk_iff (c : Cfg) :
    c.lcgOk = true ↔ c.lcgA < 256 ∧ c.lcgC < 256 ∧ c.lcgSeed < 256 := by
  simp [Cfg.lcgOk, and_assoc]

theorem Cfg.lsqOk_entries {c : Cfg} (h : c.lsqOk = true) :
    c.lsq.size = 1024 ∧ ∀ i, i < 1024 → tbl c.lsq i ≤ 16383 := by
  simp only [Cfg.lsqOk, Bool.and_eq_true, romHas_le_iff] at h
  obtain ⟨⟨hentries, -⟩, -⟩ := h
  exact hentries

theorem Cfg.expmOk_iff (c : Cfg) :
    c.expmOk = true ↔ (c.expm.size = 1024 ∧ ∀ i, i < 1024 → tbl c.expm i ≤ 16383) ∧
      ∀ i, i < 1023 → tbl c.expm (i + 1) ≤ tbl c.expm i := by
  simp only [Cfg.expmOk, Bool.and_eq_true, romHas_le_iff, allBelow_iff, decide_eq_true_eq]

theorem Cfg.freqmOk_size {c : Cfg} (h : c.freqmOk = true) : c.freqm.size = 4096 := by
  simp only [Cfg.freqmOk, Bool.and_eq_true, romHas_iff] at h
  obtain ⟨⟨⟨hsize, -⟩, -⟩, -⟩ := h
  exact hsize

theorem Cfg.lfoSineOk_iff (c : Cfg) :
    c.lfoSineOk = true ↔ c.lfoSine.size = 64 ∧ ∀ i, i < 64 → tbl c.lfoSine i ≤ 127 :=
  romHas_le_iff _ _ _

theorem Cfg.egIncOk_entries {c : Cfg} (h : c.egIncOk = true) :
    c.egInc.size = 64 ∧ ∀ i, i < 64 → tbl c.egInc i < 2 ^ 24 := by
  simp only [Cfg.egIncOk, Bool.and_eq_true, romHas_iff, decide_eq_true_eq] at h
  exact h.1

theorem Cfg.pmsGainOk_iff (c : Cfg) :
    c.pmsGainOk = true ↔ c.pmsGain.size = 8 ∧ ∀ i, i < 8 → tbl c.pmsGain i ≤ 255 :=
  romHas_le_iff _ _ _

theorem Cfg.amsGainOk_iff (c : Cfg) :
    c.amsGainOk = true ↔ c.amsGain.size = 4 ∧ ∀ i, i < 4 → tbl c.amsGain i ≤ 255 :=
  romHas_le_iff _ _ _

theorem Cfg.compAttOk_iff (c : Cfg) : c.compAttOk = true ↔ c.compAtt.size = 8 := beq_iff_eq

namespace Machine

theorem State.build?_of_wf {c : Cfg} (h : c.wf = true) :
    State.build? c = some (State.resetWith c) := if_pos h

theorem State.build?_of_not_wf {c : Cfg} (h : c.wf = false) : State.build? c = none := by
  simp [State.build?, h]

/-- Settles O53: building tests `Cfg.wf` and nothing else; an accepted configuration passes every
check, and the order of `EXPM` and `FREQM` follows from their tests of neighbouring entries. -/
theorem buildChecksTheConfiguration : Obligations.BuildChecksTheConfiguration := by
  refine fun c => ⟨State.build?_of_wf, State.build?_of_not_wf, fun h => ?_⟩
  obtain ⟨-, -, -, hlcg, -, hlsq, hexpm, hfreqm, hsine, heg, hpms, hams, hcomp, -⟩ :=
    Cfg.wf_checks h
  obtain ⟨hn1, hn16⟩ := Cfg.wf_nvoice h
  obtain ⟨hlcgA, hlcgC, hseed⟩ := (Cfg.lcgOk_iff c).mp hlcg
  obtain ⟨hlsqSize, hlsqLe⟩ := Cfg.lsqOk_entries hlsq
  obtain ⟨⟨hexpmSize, hexpmLe⟩, hexpmAdj⟩ := (Cfg.expmOk_iff c).mp hexpm
  obtain ⟨-, hfreqmRange, hfreqmAdj⟩ := Cfg.wf_freqm h
  obtain ⟨hsineSize, hsineLe⟩ := (Cfg.lfoSineOk_iff c).mp hsine
  obtain ⟨hegSize, hegLt⟩ := Cfg.egIncOk_entries heg
  obtain ⟨hpmsSize, hpmsLe⟩ := (Cfg.pmsGainOk_iff c).mp hpms
  obtain ⟨hamsSize, hamsLe⟩ := (Cfg.amsGainOk_iff c).mp hams
  exact ⟨hn1, hn16, hlcgA, hlcgC, hseed, hlsqSize, hlsqLe,
    hexpmSize, hexpmLe, tbl_anti_of_adjacent hexpmAdj,
    Cfg.freqmOk_size hfreqm, hfreqmRange, tbl_mono_of_adjacent hfreqmAdj,
    hsineSize, hsineLe, hegSize, hegLt, hpmsSize, hpmsLe, hamsSize, hamsLe,
    (Cfg.compAttOk_iff c).mp hcomp, Cfg.wf_algRom h⟩

end Machine

end Sys2Proof
end

section
/-! PROOFS. The register map (R21, R32, R42, R43): the address of every register, read back by
`regAt`, and the addresses that name none. -/

namespace Sys2Proof

/-- The operators have the numbers 1 to 6. -/
theorem OpNum.exists_num {n : Nat} (h : n < 6) : ∃ o : OpNum, o.num - 1 = n := by
  interval_cases n
  · exact ⟨.op1, rfl⟩
  · exact ⟨.op2, rfl⟩
  · exact ⟨.op3, rfl⟩
  · exact ⟨.op4, rfl⟩
  · exact ⟨.op5, rfl⟩
  · exact ⟨.op6, rfl⟩

theorem OpNum.num_le (o : OpNum) : o.num - 1 ≤ 5 := by cases o <;> decide

theorem Seg.num_le (g : Seg) : g.num ≤ 3 := by cases g <;> decide

namespace Machine

/-! The three tables of the map, entry by entry. -/

theorem opMap_eq_none_iff {k : Nat} (h : k < 16) : opMap.getD k none = none ↔ k = 6 ∨ k = 7 := by
  revert k
  decide

theorem opRegOffset_of_opMap {k : Nat} {r : OpReg} (h : k < 16) (hr : opMap.getD k none = some r) :
    opRegOffset r = k := by
  have hall : ∀ k < 16, ∀ r ∈ opMap.getD k none, opRegOffset r = k := by decide
  exact hall k h r hr

theorem opMap_opRegOffset (r : OpReg) : opMap.getD (opRegOffset r) none = some r := by
  cases r with
  | egRate g => cases g <;> rfl
  | egLevel g => cases g <;> rfl
  | _ => rfl

theorem voiceMap_eq_none_iff {k : Nat} (h : k < 36) :
    voiceMap.getD k none = none ↔ (5 ≤ k ∧ k ≤ 7) ∨ k = 0x17 := by
  revert k
  decide

theorem voiceMap_beyond {k : Nat} (h : 36 ≤ k) : voiceMap.getD k none = none :=
  List.getD_eq_default _ _ h

theorem voiceRegAddr_of_voiceMap {k : Nat} {r : VoiceReg} (h : k < 36)
    (hr : voiceMap.getD k none = some r) : (voiceRegAddr r).toNat = 0x60 + k := by
  have hall : ∀ k < 36, ∀ r ∈ voiceMap.getD k none, (voiceRegAddr r).toNat = 0x60 + k := by decide
  exact hall k h r hr

theorem voiceMap_voiceRegAddr (r : VoiceReg) :
    voiceMap.getD ((voiceRegAddr r).toNat - 0x60) none = some r := by
  cases r with
  | pegRate g => cases g <;> rfl
  | pegLevel g => cases g <;> rfl
  | mixRange k => cases k <;> rfl
  | mixAssign k => cases k <;> rfl
  | mixRaw k => cases k <;> rfl
  | _ => rfl

theorem voiceRegAddr_range (r : VoiceReg) :
    0x60 ≤ (voiceRegAddr r).toNat ∧ (voiceRegAddr r).toNat ≤ 0x83 := by
  cases r with
  | pegRate g => cases g <;> decide
  | pegLevel g => cases g <;> decide
  | mixRange k => cases k <;> decide
  | mixAssign k => cases k <;> decide
  | mixRaw k => cases k <;> decide
  | _ => decide

theorem statusMap_eq_none_iff {k : Nat} (h : k < 22) :
    statusMap.getD k none = none ↔ k = 6 ∨ k = 7 ∨ k = 14 ∨ k = 15 := by
  revert k
  decide

theorem statusMap_beyond {k : Nat} (h : 22 ≤ k) : statusMap.getD k none = none :=
  List.getD_eq_default _ _ h

theorem statusRegAddr_of_statusMap {k : Nat} {r : StatusReg} (h : k < 22)
    (hr : statusMap.getD k none = some r) : (statusRegAddr r).toNat = 0xE0 + k := by
  have hall : ∀ k < 22, ∀ r ∈ statusMap.getD k none, (statusRegAddr r).toNat = 0xE0 + k := by
    decide
  exact hall k h r hr

theorem statusMap_statusRegAddr (r : StatusReg) :
    statusMap.getD ((statusRegAddr r).toNat - 0xE0) none = some r := by
  cases r with
  | egAtt o => cases o <;> simp [statusRegAddr, statusMap, OpNum.num]
  | egStage o => cases o <;> simp [statusRegAddr, statusMap, OpNum.num]
  | _ => simp [statusRegAddr, statusMap]

theorem statusRegAddr_egAtt_toNat (o : OpNum) :
    (statusRegAddr (.egAtt o)).toNat = 0xE8 + (o.num - 1) := by cases o <;> rfl

theorem statusRegAddr_egStage_toNat (o : OpNum) :
    (statusRegAddr (.egStage o)).toNat = 0xF0 + (o.num - 1) := by cases o <;> rfl

theorem le_statusRegAddr (r : StatusReg) : 0xE0 ≤ (statusRegAddr r).toNat := by
  cases r with
  | egAtt o => rw [statusRegAddr_egAtt_toNat]; omega
  | egStage o => rw [statusRegAddr_egStage_toNat]; omega
  | _ => simp [statusRegAddr]

theorem opOfBlock_num (o : OpNum) : opOfBlock (o.num - 1) = some o := by cases o <;> rfl

theorem opOfBlock_eq_none {n : Nat} (h : 6 ≤ n) : opOfBlock n = none := by
  obtain ⟨m, rfl⟩ := Nat.exists_eq_add_of_le' h
  rfl

theorem opRegOffset_lt (r : OpReg) : opRegOffset r < 16 := by
  cases r with
  | egRate g => have := g.num_le; simp only [opRegOffset]; omega
  | egLevel g => have := g.num_le; simp only [opRegOffset]; omega
  | _ => decide

theorem opRegAddr_toNat (o : OpNum) (r : OpReg) :
    (opRegAddr o r).toNat = (o.num - 1) * 16 + opRegOffset r := by
  have := o.num_le
  have := opRegOffset_lt r
  simp only [opRegAddr, BitVec.toNat_ofNat]
  omega

/-! `regAt` in each of its three blocks. -/

theorem regAt_eq_opRegAt {a : Addr} {o : OpNum} {k : Nat} (hk : k < 16)
    (h : a.toNat = (o.num - 1) * 16 + k) : regAt a = opRegAt o k := by
  have hdiv : a.toNat / 16 = o.num - 1 := by omega
  have hmod : a.toNat % 16 = k := by omega
  simp only [regAt, hdiv, hmod, opOfBlock_num]

theorem regAt_eq_voice {a : Addr} {r : VoiceReg} (hl : 0x60 ≤ a.toNat) (hu : a.toNat < 0xE0)
    (h : voiceMap.getD (a.toNat - 0x60) none = some r) : regAt a = .voice r := by
  simp only [regAt, opOfBlock_eq_none (show 6 ≤ a.toNat / 16 by omega), if_pos hu, h]

theorem regAt_eq_reserved_of_voiceMap {a : Addr} (hl : 0x60 ≤ a.toNat) (hu : a.toNat < 0xE0)
    (h : voiceMap.getD (a.toNat - 0x60) none = none) : regAt a = .reserved := by
  simp only [regAt, opOfBlock_eq_none (show 6 ≤ a.toNat / 16 by omega), if_pos hu, h]

theorem regAt_eq_status {a : Addr} {r : StatusReg} (hl : 0xE0 ≤ a.toNat)
    (h : statusMap.getD (a.toNat - 0xE0) none = some r) : regAt a = .status r := by
  simp only [regAt, opOfBlock_eq_none (show 6 ≤ a.toNat / 16 by omega),
    if_neg (Nat.not_lt.mpr hl), h]

theorem regAt_eq_reserved_of_statusMap {a : Addr} (hl : 0xE0 ≤ a.toNat)
    (h : statusMap.getD (a.toNat - 0xE0) none = none) : regAt a = .reserved := by
  simp only [regAt, opOfBlock_eq_none (show 6 ≤ a.toNat / 16 by omega),
    if_neg (Nat.not_lt.mpr hl), h]

/-! Every register is found at its address. -/

@[simp] theorem regAt_opRegAddr (o : OpNum) (r : OpReg) : regAt (opRegAddr o r) = .op o r := by
  rw [regAt_eq_opRegAt (opRegOffset_lt r) (opRegAddr_toNat o r)]
  simp only [opRegAt, opMap_opRegOffset]

@[simp] theorem regAt_voiceRegAddr (r : VoiceReg) : regAt (voiceRegAddr r) = .voice r := by
  obtain ⟨hl, hu⟩ := voiceRegAddr_range r
  exact regAt_eq_voice hl (by omega) (voiceMap_voiceRegAddr r)

@[simp] theorem regAt_statusRegAddr (r : StatusReg) : regAt (statusRegAddr r) = .status r :=
  regAt_eq_status (le_statusRegAddr r) (statusMap_statusRegAddr r)

/-! Every address in a register range is the address of a register. -/

theorem exists_opRegAddr {a : Addr} (h : a.toNat ≤ 0x5F) (h6 : a.toNat % 16 ≠ 6)
    (h7 : a.toNat % 16 ≠ 7) : ∃ o r, a = opRegAddr o r := by
  obtain ⟨o, ho⟩ := OpNum.exists_num (show a.toNat / 16 < 6 by omega)
  have hk : a.toNat % 16 < 16 := Nat.mod_lt _ (by decide)
  have hne : opMap.getD (a.toNat % 16) none ≠ none := by
    rw [Ne, opMap_eq_none_iff hk]
    omega
  obtain ⟨r, hr⟩ := Option.ne_none_iff_exists'.mp hne
  refine ⟨o, r, BitVec.eq_of_toNat_eq ?_⟩
  rw [opRegAddr_toNat, ho, opRegOffset_of_opMap hk hr]
  omega

theorem exists_voiceRegAddr {a : Addr} (hl : 0x60 ≤ a.toNat) (hu : a.toNat ≤ 0x83)
    (h1 : ¬ (0x65 ≤ a.toNat ∧ a.toNat ≤ 0x67)) (h2 : a.toNat ≠ 0x77) : ∃ r, a = voiceRegAddr r := by
  have hk : a.toNat - 0x60 < 36 := by omega
  have hne : voiceMap.getD (a.toNat - 0x60) none ≠ none := by
    rw [Ne, voiceMap_eq_none_iff hk]
    omega
  obtain ⟨r, hr⟩ := Option.ne_none_iff_exists'.mp hne
  refine ⟨r, BitVec.eq_of_toNat_eq ?_⟩
  rw [voiceRegAddr_of_voiceMap hk hr]
  omega

theorem exists_statusRegAddr {a : Addr} (hl : 0xE0 ≤ a.toNat) (hu : a.toNat ≤ 0xE5) :
    ∃ r, a = statusRegAddr r := by
  have hk : a.toNat - 0xE0 < 22 := by omega
  have hne : statusMap.getD (a.toNat - 0xE0) none ≠ none := by
    rw [Ne, statusMap_eq_none_iff hk]
    omega
  obtain ⟨r, hr⟩ := Option.ne_none_iff_exists'.mp hne
  refine ⟨r, BitVec.eq_of_toNat_eq ?_⟩
  rw [statusRegAddr_of_statusMap hk hr]
  omega

theorem exists_egAttAddr {a : Addr} (hl : 0xE8 ≤ a.toNat) (hu : a.toNat ≤ 0xED) :
    ∃ o, a = statusRegAddr (.egAtt o) := by
  obtain ⟨o, ho⟩ := OpNum.exists_num (show a.toNat - 0xE8 < 6 by omega)
  refine ⟨o, BitVec.eq_of_toNat_eq ?_⟩
  rw [statusRegAddr_egAtt_toNat]
  omega

theorem exists_egStageAddr {a : Addr} (hl : 0xF0 ≤ a.toNat) (hu : a.toNat ≤ 0xF5) :
    ∃ o, a = statusRegAddr (.egStage o) := by
  obtain ⟨o, ho⟩ := OpNum.exists_num (show a.toNat - 0xF0 < 6 by omega)
  refine ⟨o, BitVec.eq_of_toNat_eq ?_⟩
  rw [statusRegAddr_egStage_toNat]
  omega

/-! The reserved addresses of each block. -/

theorem regAt_reserved_opBlock {a : Addr} (h : a.toNat ≤ 0x5F)
    (hk : a.toNat % 16 = 6 ∨ a.toNat % 16 = 7) : regAt a = .reserved := by
  obtain ⟨o, ho⟩ := OpNum.exists_num (show a.toNat / 16 < 6 by omega)
  have hlt : a.toNat % 16 < 16 := Nat.mod_lt _ (by decide)
  rw [regAt_eq_opRegAt (o := o) hlt (by omega)]
  simp only [opRegAt, (opMap_eq_none_iff hlt).mpr hk]

theorem regAt_reserved_voiceBlock {a : Addr} (hl : 0x60 ≤ a.toNat) (hu : a.toNat < 0xE0)
    (h : (0x65 ≤ a.toNat ∧ a.toNat ≤ 0x67) ∨ a.toNat = 0x77 ∨ 0x84 ≤ a.toNat) :
    regAt a = .reserved := by
  refine regAt_eq_reserved_of_voiceMap hl hu ?_
  rcases Nat.lt_or_ge (a.toNat - 0x60) 36 with hk | hk
  · exact (voiceMap_eq_none_iff hk).mpr (by omega)
  · exact voiceMap_beyond hk

theorem regAt_reserved_statusBlock {a : Addr} (hl : 0xE0 ≤ a.toNat)
    (h : a.toNat = 0xE6 ∨ a.toNat = 0xE7 ∨ a.toNat = 0xEE ∨ a.toNat = 0xEF ∨ 0xF6 ≤ a.toNat) :
    regAt a = .reserved := by
  refine regAt_eq_reserved_of_statusMap hl ?_
  rcases Nat.lt_or_ge (a.toNat - 0xE0) 22 with hk | hk
  · exact (statusMap_eq_none_iff hk).mpr (by omega)
  · exact statusMap_beyond hk

/-- The reserved addresses of R42, over all three blocks. -/
theorem regAt_reserved_of_ranges {a : Addr}
    (h : (a.toNat ≤ 0x5F ∧ (a.toNat % 16 = 6 ∨ a.toNat % 16 = 7)) ∨
      (0x65 ≤ a.toNat ∧ a.toNat ≤ 0x67) ∨ a.toNat = 0x77 ∨ (0x84 ≤ a.toNat ∧ a.toNat ≤ 0xDF) ∨
      a.toNat = 0xE6 ∨ a.toNat = 0xE7 ∨ a.toNat = 0xEE ∨ a.toNat = 0xEF ∨ 0xF6 ≤ a.toNat) :
    regAt a = .reserved := by
  rcases Nat.lt_or_ge a.toNat 0x60 with hop | hop
  · exact regAt_reserved_opBlock (by omega) (by omega)
  rcases Nat.lt_or_ge a.toNat 0xE0 with hvoice | hstatus
  · exact regAt_reserved_voiceBlock hop hvoice (by omega)
  · exact regAt_reserved_statusBlock hstatus (by omega)

/-! What the two register primitives do at each kind of address (R101, R104). -/

theorem regRead_of_reserved (c : Cfg) (V : Voice) {a : Addr} (h : regAt a = .reserved) :
    regRead c V a = 0 := by simp only [regRead, h]

@[simp] theorem regRead_opRegAddr (c : Cfg) (V : Voice) (o : OpNum) (r : OpReg) :
    regRead c V (opRegAddr o r) = opRegRead (V.ops.get o) r := by
  simp only [regRead, regAt_opRegAddr]

@[simp] theorem regRead_voiceRegAddr (c : Cfg) (V : Voice) (r : VoiceReg) :
    regRead c V (voiceRegAddr r) = voiceRegRead V r := by simp only [regRead, regAt_voiceRegAddr]

@[simp] theorem regRead_statusRegAddr (c : Cfg) (V : Voice) (r : StatusReg) :
    regRead c V (statusRegAddr r) = statusRead c V r := by simp only [regRead, regAt_statusRegAddr]

theorem regWrite_of_reserved (c : Cfg) (V : Voice) {a : Addr} (d : Data)
    (h : regAt a = .reserved) : regWrite c V a d = V := by simp only [regWrite, h]

theorem regWrite_of_status (c : Cfg) (V : Voice) {a : Addr} {r : StatusReg} (d : Data)
    (h : regAt a = .status r) : regWrite c V a d = V := by simp only [regWrite, h]

@[simp] theorem regWrite_opRegAddr (c : Cfg) (V : Voice) (o : OpNum) (r : OpReg) (d : Data) :
    regWrite c V (opRegAddr o r) d =
      { V with ops := V.ops.set o (opRegWrite c (V.ops.get o) r d) } := by
  simp only [regWrite, regAt_opRegAddr]

@[simp] theorem regWrite_voiceRegAddr (c : Cfg) (V : Voice) (r : VoiceReg) (d : Data) :
    regWrite c V (voiceRegAddr r) d = voiceRegWrite V r d := by
  simp only [regWrite, regAt_voiceRegAddr]

/-- `WR_REG` in an existing voice is `RegWrite` on its record (R101). -/
theorem exec_wrReg_some {s : State} {v : VoiceNum} {V : Voice} (a : Addr) (d : Data)
    (h : voiceAt s v = some V) :
    exec (.wrReg v a d) s = .next (putVoice s v (regWrite s.cfg V a d)) := onVoice_some _ h

/-- A register write that leaves the record leaves the state. -/
theorem exec_wrReg_unchanged {s : State} {v : VoiceNum} {V : Voice} {a : Addr} {d : Data}
    (h : voiceAt s v = some V) (hw : regWrite s.cfg V a d = V) :
    exec (.wrReg v a d) s = .next s := by rw [exec_wrReg_some a d h, hw, putVoice_self h]

/-- `RD_REG` in an existing voice puts `RegRead` of its record on `DOUT` (R104). -/
theorem exec_rdReg_some {s : State} {v : VoiceNum} {V : Voice} (a : Addr)
    (h : voiceAt s v = some V) :
    exec (.rdReg v a) s = .next (putDout s (regRead s.cfg V a)) := execRdReg_some a h

/-- Settles O10: the tables give the addresses, which `regAt` reads back; the ranges and the
reserved addresses go block by block; a write that stores nowhere puts the same record back. -/
theorem registerMapIsComplete : Obligations.RegisterMapIsComplete := by
  refine ⟨fun block hb row hr => ?_, fun row hr => ?_, fun row hr => ?_, fun a => ?_,
    fun s v V a hV => ⟨fun ha => ⟨fun d => ?_, ?_⟩, fun r ha d => ?_⟩⟩
  · have haddr : opRegAddr block.2 row.2 = block.1 + row.1 := by
      revert row
      revert block
      decide
    exact ⟨haddr ▸ regAt_opRegAddr _ _, haddr⟩
  · have haddr : voiceRegAddr row.2 = row.1 := by
      revert row
      decide
    exact ⟨haddr ▸ regAt_voiceRegAddr _, haddr⟩
  · have haddr : statusRegAddr row.2 = row.1 := by
      revert row
      decide
    exact ⟨haddr ▸ regAt_statusRegAddr _, haddr⟩
  · refine ⟨fun h h6 h7 => ?_, fun hl hu h1 h2 => ?_, fun hl hu => ?_, fun hl hu => ?_,
      fun hl hu => ?_, fun h => ?_⟩
    · obtain ⟨o, r, rfl⟩ := exists_opRegAddr h h6 h7
      exact ⟨o, r, regAt_opRegAddr o r, rfl⟩
    · obtain ⟨r, rfl⟩ := exists_voiceRegAddr hl hu h1 h2
      exact ⟨r, regAt_voiceRegAddr r, rfl⟩
    · obtain ⟨r, rfl⟩ := exists_statusRegAddr hl hu
      exact ⟨r, regAt_statusRegAddr r, rfl⟩
    · obtain ⟨o, rfl⟩ := exists_egAttAddr hl hu
      exact ⟨o, regAt_statusRegAddr _, statusRegAddr_egAtt_toNat o⟩
    · obtain ⟨o, rfl⟩ := exists_egStageAddr hl hu
      exact ⟨o, regAt_statusRegAddr _, statusRegAddr_egStage_toNat o⟩
    · exact regAt_reserved_of_ranges h
  · exact exec_wrReg_unchanged hV (regWrite_of_reserved _ _ d ha)
  · rw [exec_rdReg_some a hV, regRead_of_reserved _ _ ha]
  · exact exec_wrReg_unchanged hV (regWrite_of_status _ _ d ha)

theorem voiceRegWrite_alg_of_le (V : Voice) {d : Data} (h : d.toNat ≤ 31) :
    voiceRegWrite V .alg d = { V with alg := d.setWidth 5 } := if_pos h

theorem voiceRegWrite_alg_of_gt (V : Voice) {d : Data} (h : 31 < d.toNat) :
    voiceRegWrite V .alg d = V := if_neg (Nat.not_le.mpr h)

/-- Settles O13: the two branches of the write to `ALG`; five bits hold every accepted value. -/
theorem writeAlgorithmRegister : Obligations.WriteAlgorithmRegister := by
  refine fun s v V d hV => ⟨fun hd => ⟨d.setWidth 5, ?_, ?_⟩, fun hd => ?_⟩
  · rw [BitVec.toNat_setWidth]
    exact Nat.mod_eq_of_lt (Nat.lt_succ_of_le hd)
  · rw [exec_wrReg_some _ d hV, regWrite_voiceRegAddr, voiceRegWrite_alg_of_le V hd]
  · refine exec_wrReg_unchanged hV ?_
    rw [regWrite_voiceRegAddr, voiceRegWrite_alg_of_gt V hd]

end Machine

end Sys2Proof
end

section
/-! PROOFS. What a well-formed state gives, check by check (R252), and the status registers
(R43, R131, R193). -/

namespace Sys2Proof.Machine

theorem OpRec.wf_iff (c : Cfg) (p : OpRec) :
    p.wf c = true ↔ (∀ g, p.egRate.get g < 2 ^ c.egCodeW) ∧
      (∀ g, p.egLevel.get g < 2 ^ c.egCodeW) ∧ p.phase < 2 ^ c.phaseW ∧ p.egCur < 2 ^ c.egW := by
  simp only [OpRec.wf, Bool.and_eq_true, PerSeg.all_toList, decide_eq_true_eq, and_assoc]

theorem Voice.wf_iff (c : Cfg) (V : Voice) :
    V.wf c = true ↔ (∀ o, (V.ops.get o).wf c = true) ∧ fitsSigned c.accW V.mod = true ∧
      fitsSigned c.accW V.mem = true ∧ fitsSigned c.accW V.sum = true ∧
      fitsSigned c.accW V.out = true ∧ outputRange V.fb1 = true ∧ outputRange V.fb2 = true ∧
      V.pegCur.toNat ≤ 0x7F80 ∧ V.seq = 0 := by
  simp only [Voice.wf, Bool.and_eq_true, PerOp.all_toList, decide_eq_true_eq, beq_iff_eq, and_assoc]

theorem State.wf_iff (s : State) :
    s.wf = true ↔ s.cfg.wf = true ∧ s.voices.length = s.cfg.nvoice ∧
      ∀ V ∈ s.voices, V.wf s.cfg = true := by
  simp only [State.wf, Bool.and_eq_true, beq_iff_eq, List.all_eq_true, and_assoc]

theorem Voice.wf_of_voiceAt {s : State} {v : VoiceNum} {V : Voice} (hs : s.wf = true)
    (hV : voiceAt s v = some V) : V.wf s.cfg = true := by
  obtain ⟨-, -, hvoices⟩ := s.wf_iff.mp hs
  exact hvoices V (voiceAt_mem hV)

/-- A signed value of at most 32 bits is read back from `DOUT` (R7, R43). -/
theorem toInt_ofInt_of_fits {n : Nat} (hn : n ≤ 32) {x : Int} (hx : fitsSigned n x = true) :
    (BitVec.ofInt 32 x).toInt = x := by
  obtain ⟨hl, hu⟩ := (fitsSigned_iff n x).mp hx
  have hpow : 2 ^ (n - 1) ≤ 2 ^ 31 := Nat.pow_le_pow_right (by decide) (by omega)
  rw [BitVec.toInt_ofInt]
  exact Int.bmod_eq_of_le (by omega) (by omega)

/-- A number that fits the width of a word is read back from it. -/
theorem toNat_ofNat_of_lt {n x : Nat} (h : x < 2 ^ n) : (BitVec.ofNat n x).toNat = x :=
  (BitVec.toNat_ofNat x n).trans (Nat.mod_eq_of_lt h)

theorem EgStage.code_le (st : EgStage) : st.code ≤ 5 := by cases st <;> decide

theorem EgStage.code_eq_five_iff (st : EgStage) : st.code = 5 ↔ st = .ended := by
  cases st <;> decide

/-- `COMPLETE` says that all six stages are End (R131). -/
theorem complete_iff (V : Voice) :
    complete V = true ↔ ∀ o, (V.ops.get o).egStage.code = 5 := by
  simp only [complete, egComplete, PerOp.all_toList, beq_iff_eq, EgStage.code_eq_five_iff]

theorem statusRead_complete_of_ended (c : Cfg) {V : Voice}
    (h : ∀ o, (V.ops.get o).egStage.code = 5) : statusRead c V .complete = 1 :=
  if_pos ((complete_iff V).mpr h)

theorem statusRead_complete_of_running (c : Cfg) {V : Voice}
    (h : ∃ o, (V.ops.get o).egStage.code ≠ 5) : statusRead c V .complete = 0 := by
  obtain ⟨o, ho⟩ := h
  exact if_neg fun hc => ho ((complete_iff V).mp hc o)

theorem lfoFade_eq_div (V : Voice) : lfoFade V = V.lfoFadeAcc.toNat / 256 := by
  have := V.lfoFadeAcc.isLt
  rw [lfoFade, BitVec.extractLsb'_toNat, Nat.shiftRight_eq_div_pow]
  omega

theorem egAtt_eq_div (c : Cfg) (p : OpRec) : egAtt c p = p.egCur / 2 ^ (c.egW - c.attW) :=
  Nat.shiftRight_eq_div_pow _ _

/-- The visible attenuation has `ATT_W` bits (R129). -/
theorem egAtt_lt {c : Cfg} (hw : c.attW ≤ c.egW) {p : OpRec} (hp : p.egCur < 2 ^ c.egW) :
    egAtt c p < 2 ^ c.attW := by
  rw [egAtt_eq_div, Nat.div_lt_iff_lt_mul (Nat.two_pow_pos _), ← pow_add, Nat.add_sub_cancel' hw]
  exact hp

/-- `PEG_OUT` is a 15-bit signed value (R193). -/
theorem pegOut_fits (V : Voice) : fitsSigned 15 (pegOut V) = true := by
  have := V.pegCur.isLt
  rw [fitsSigned_iff, pegOut]
  omega

/-- Settles O16: the read is `statusRead`, and each of its values fits the 32 bits of `DOUT`: `OUT`
and the attenuations by well-formedness, the others by their types. -/
theorem readStatusValues : Obligations.ReadStatusValues := by
  intro s v V r hs hV
  obtain ⟨hcfg, -, -⟩ := s.wf_iff.mp hs
  obtain ⟨-, hatt, hatt32, -, -, hacc32⟩ := Cfg.wf_widths hcfg
  obtain ⟨hops, -, -, -, hout, -, -, -, -⟩ := (V.wf_iff s.cfg).mp (Voice.wf_of_voiceAt hs hV)
  refine ⟨statusRead s.cfg V r, ?_, ?_⟩
  · rw [exec_rdReg_some _ hV, regRead_statusRegAddr]
  cases r with
  | out => exact toInt_ofInt_of_fits hacc32 hout
  | complete =>
    exact ⟨fun h => congrArg BitVec.toNat (statusRead_complete_of_ended s.cfg h),
      fun h => congrArg BitVec.toNat (statusRead_complete_of_running s.cfg h)⟩
  | lfoPout => exact BitVec.toInt_signExtend_of_le (by decide)
  | lfoAout => exact BitVec.toNat_setWidth_of_le (by decide)
  | lfoFade => exact (BitVec.toNat_setWidth_of_le (by decide)).trans (lfoFade_eq_div V)
  | pegOut => exact toInt_ofInt_of_fits (by decide) (pegOut_fits V)
  | egAtt o =>
    obtain ⟨-, -, -, hcur⟩ := ((V.ops.get o).wf_iff s.cfg).mp (hops o)
    have hlt : egAtt s.cfg (V.ops.get o) < 2 ^ 32 :=
      (egAtt_lt hatt hcur).trans_le (Nat.pow_le_pow_right (by decide) hatt32)
    exact (toNat_ofNat_of_lt hlt).trans (egAtt_eq_div s.cfg _)
  | egStage o =>
    have := (V.ops.get o).egStage.code_le
    exact toNat_ofNat_of_lt (by omega)

end Sys2Proof.Machine
end

section
/-! PROOFS. What no command changes: the configuration, the number of voice records and the waiting
words (R20, R65, R263). -/

namespace Sys2Proof.Machine

theorem length_putVoice_voices (s : State) (v : VoiceNum) (V : Voice) :
    (putVoice s v V).voices.length = s.voices.length := by
  rw [putVoice_voices, List.length_set]

theorem exec_keeps_shape {i : Instr} {s t : State} (h : exec i s = .next t) :
    t.cfg = s.cfg ∧ t.voices.length = s.voices.length ∧ t.port = s.port := by
  rcases exec_cases h with ⟨rfl, -⟩ | ⟨v, a, V, -, -, rfl⟩ | ⟨v, V, -, -, -, rfl⟩
  · exact ⟨rfl, rfl, rfl⟩
  · exact ⟨putDout_cfg _ _, congrArg List.length (putDout_voices _ _), putDout_port _ _⟩
  · exact ⟨putVoice_cfg _ _ _, length_putVoice_voices _ _ _, putVoice_port _ _ _⟩

/-- Settles O46: a command keeps all three, and the fetch before it takes one word off the port. -/
theorem configurationIsFixed : Obligations.ConfigurationIsFixed := by
  refine ⟨fun i s t => exec_keeps_shape, fun s t h => ?_⟩
  obtain ⟨hcfg, hlen, hport⟩ := exec_keeps_shape (s := (fetch s).2) h
  rw [fetch_cfg] at hcfg
  rw [fetch_voices] at hlen
  rw [fetch_port] at hport
  exact ⟨hcfg, hlen, hport⟩

end Sys2Proof.Machine
end

section
/-! PROOFS. The state after reset (R44, R260, R261). -/

namespace Sys2Proof.Machine

/-- After reset every voice below `NVOICE` is the reset record. -/
theorem voiceAt_resetWith {c : Cfg} {v : VoiceNum} (h : v.toNat < c.nvoice) :
    voiceAt (State.resetWith c) v = some (Voice.reset c) :=
  voiceAt_eq_some.mpr ⟨h, List.getElem?_replicate_of_lt h⟩

@[simp] theorem Voice.reset_ops_get (c : Cfg) (o : OpNum) :
    (Voice.reset c).ops.get o = OpRec.reset c := PerOp.get_const _ o

theorem opRegVal_reset (c : Cfg) {r : OpReg} (h : ∀ g, r ≠ .egLevel g) :
    opRegVal (OpRec.reset c) r = 0 := by
  cases r with
  | egRate g => exact PerSeg.get_const 0 g
  | egLevel g => exact absurd rfl (h g)
  | _ => rfl

theorem voiceRegVal_reset (c : Cfg) {r : VoiceReg} (hb : r ≠ .pbend) (hl : ∀ g, r ≠ .pegLevel g) :
    voiceRegVal (Voice.reset c) r = 0 := by
  cases r with
  | pbend => exact absurd rfl hb
  | pegLevel g => exact absurd rfl (hl g)
  | pegRate g => exact congrArg BitVec.toNat (PerSeg.get_const 0 g)
  | mixRange k => exact congrArg BitVec.toNat (PerCtrl.get_const 0 k)
  | mixAssign k => exact congrArg BitVec.toNat (PerCtrl.get_const 0 k)
  | mixRaw k => exact congrArg BitVec.toNat (PerCtrl.get_const 0 k)
  | _ => rfl

/-- The envelope attenuation after reset is the largest of `EG_W` bits (R44). -/
theorem OpRec.reset_egCur {c : Cfg} (h : c.egW = 24) : (OpRec.reset c).egCur = 0xFFFFFF := by
  simp only [OpRec.reset, h]
  rfl

theorem Voice.reset_lfoRand_toNat {c : Cfg} (h : c.lcgSeed < 256) :
    (Voice.reset c).lfoRand.toNat = c.lcgSeed := toNat_ofNat_of_lt h

/-- Settles O54: every voice is `Voice.reset c`, whose fields are R44's values. -/
theorem resetValuesAreTheSpecs : Obligations.ResetValuesAreTheSpecs := by
  intro c v hseed hegW hv
  refine ⟨rfl, Voice.reset c, voiceAt_resetWith hv, fun o => ?_, fun r => voiceRegVal_reset c, rfl,
    fun g => PerSeg.get_const 0x80 g, rfl, rfl, rfl, rfl, rfl, rfl, rfl,
    Voice.reset_lfoRand_toNat hseed, rfl, rfl, rfl, rfl, rfl, rfl, rfl, rfl, rfl⟩
  rw [Voice.reset_ops_get]
  exact ⟨fun r => opRegVal_reset c, fun g => PerSeg.get_const 63 g, rfl, OpRec.reset_egCur hegW, rfl⟩

end Sys2Proof.Machine
end

section
/-! PROOFS. The read and write sets of a command (R66): a command is one update of the state, found
from the configuration and its own voice, and updates of different parts of the state commute. -/

namespace Sys2Proof.Machine

/-- The part of the state that one command replaces, and what it puts there. -/
inductive Update where
  | keep
  | dout (x : Word)
  | voice (v : VoiceNum) (V : Voice)

def Update.apply : Update → State → State
  | .keep, s => s
  | .dout x, s => putDout s x
  | .voice v V, s => putVoice s v V

/-- The two updates do not replace the same part of the state. -/
def Update.Disjoint : Update → Update → Prop
  | .dout _, .dout _ => False
  | .voice u _, .voice v _ => u ≠ v
  | _, _ => True

/-- The update of a command whose voice `v` exists, with record `V`. -/
def ownUpdate (c : Cfg) (i : Instr) (v : VoiceNum) (V : Voice) : Update :=
  match i with
  | .rdReg _ a => .dout (regRead c V a)
  | _ => .voice v (voiceEffect c i V)

/-- The update of a command: its voice record is all it reads of the voices, and it keeps the state
when it names no existing voice (R85). -/
def cmdUpdate (s : State) (i : Instr) : Update :=
  match cmdVoice i with
  | none => .keep
  | some v => (voiceAt s v).elim .keep (ownUpdate s.cfg i v)

/-! The update of each kind of command, and that execution applies it. -/

theorem ownUpdate_of_not_read (c : Cfg) {i : Instr} (v : VoiceNum) (V : Voice)
    (h : isReadCmd i = false) : ownUpdate c i v V = .voice v (voiceEffect c i V) := by
  cases i with
  | rdReg u a => cases h
  | _ => rfl

theorem cmdUpdate_of_absent {s : State} {i : Instr}
    (h : ∀ v, cmdVoice i = some v → voiceAt s v = none) : cmdUpdate s i = .keep := by
  cases hi : cmdVoice i with
  | none => simp only [cmdUpdate, hi]
  | some v => simp only [cmdUpdate, hi, h v hi, Option.elim_none]

theorem cmdUpdate_of_voice {s : State} {i : Instr} {v : VoiceNum} {V : Voice}
    (hi : cmdVoice i = some v) (hV : voiceAt s v = some V) :
    cmdUpdate s i = ownUpdate s.cfg i v V := by
  simp only [cmdUpdate, hi, hV, Option.elim_some]

theorem exec_eq_cmdUpdate (i : Instr) (s : State) :
    exec i s = .next ((cmdUpdate s i).apply s) := by
  obtain ⟨t, ht⟩ := exec_total i s
  rw [ht]
  refine congrArg _ ?_
  rcases exec_cases ht with ⟨rfl, habsent⟩ | ⟨v, a, V, rfl, hV, rfl⟩ | ⟨v, V, hi, hread, hV, rfl⟩
  · rw [cmdUpdate_of_absent habsent]
    rfl
  · rw [cmdUpdate_of_voice rfl hV]
    rfl
  · rw [cmdUpdate_of_voice hi hV, ownUpdate_of_not_read _ _ _ hread]
    rfl

/-- The three forms of the update, with what each says about the command. -/
theorem cmdUpdate_cases (s : State) (i : Instr) :
    cmdUpdate s i = .keep ∨ (∃ x, isReadCmd i = true ∧ cmdUpdate s i = .dout x) ∨
      ∃ v V, cmdVoice i = some v ∧ cmdUpdate s i = .voice v V := by
  obtain ⟨t, ht⟩ := exec_total i s
  rcases exec_cases ht with ⟨-, habsent⟩ | ⟨v, a, V, rfl, hV, -⟩ | ⟨v, V, hi, hread, hV, -⟩
  · exact .inl (cmdUpdate_of_absent habsent)
  · exact .inr (.inl ⟨_, rfl, cmdUpdate_of_voice rfl hV⟩)
  · exact .inr (.inr ⟨v, _, hi,
      (cmdUpdate_of_voice hi hV).trans (ownUpdate_of_not_read _ _ _ hread)⟩)

/-- The read set: the configuration and the record of the named voice. -/
theorem cmdUpdate_congr {s s' : State} {i : Instr} (hcfg : s.cfg = s'.cfg)
    (hvoice : ∀ v, cmdVoice i = some v → voiceAt s v = voiceAt s' v) :
    cmdUpdate s i = cmdUpdate s' i := by
  cases hi : cmdVoice i with
  | none => simp only [cmdUpdate, hi]
  | some v => simp only [cmdUpdate, hi, hcfg, hvoice v hi]

/-! The first clause: other voices, `DOUT`, and the voice itself. -/

theorem exec_dout_of_not_read {i : Instr} {s t : State} (h : exec i s = .next t)
    (hread : isReadCmd i = false) : t.dout = s.dout := by
  rcases exec_cases h with ⟨rfl, -⟩ | ⟨v, a, V, rfl, -, -⟩ | ⟨v, V, -, -, -, rfl⟩
  · rfl
  · cases hread
  · exact putVoice_dout _ _ _

theorem voiceAt_eq_none {s : State} {v : VoiceNum} :
    voiceAt s v = none ↔ (v.toNat < s.cfg.nvoice → s.voices.length ≤ v.toNat) := by
  simp [voiceAt]

theorem voiceAt_putVoice_none {s : State} {v : VoiceNum} (W : Voice) (h : voiceAt s v = none) :
    voiceAt (putVoice s v W) v = none := by
  rw [voiceAt_eq_none] at h ⊢
  rwa [putVoice_cfg, length_putVoice_voices]

/-- An update gives a voice the same record in two states where it had the same. -/
theorem Update.voiceAt_apply_congr {s s' : State} {u : VoiceNum} (U : Update)
    (h : voiceAt s u = voiceAt s' u) : voiceAt (U.apply s) u = voiceAt (U.apply s') u := by
  cases U with
  | keep => exact h
  | dout x => exact h
  | voice v W =>
    simp only [Update.apply]
    rcases eq_or_ne u v with rfl | hne
    · cases hV : voiceAt s u with
      | none => rw [voiceAt_putVoice_none W hV, voiceAt_putVoice_none W (h ▸ hV)]
      | some V => rw [voiceAt_putVoice_same W hV, voiceAt_putVoice_same W (h ▸ hV)]
    · rw [voiceAt_putVoice_ne W hne, voiceAt_putVoice_ne W hne, h]

theorem exec_voiceAt_congr {i : Instr} {u : VoiceNum} {s s' t t' : State}
    (hi : cmdVoice i = some u) (ht : exec i s = .next t) (ht' : exec i s' = .next t')
    (hcfg : s.cfg = s'.cfg) (hvoice : voiceAt s u = voiceAt s' u) :
    voiceAt t u = voiceAt t' u := by
  have hupdate : cmdUpdate s i = cmdUpdate s' i := cmdUpdate_congr hcfg fun v hv => by
    rw [← Option.some.inj (hi.symm.trans hv), hvoice]
  rw [exec_next_unique (exec_eq_cmdUpdate i s) ht, exec_next_unique (exec_eq_cmdUpdate i s') ht',
    hupdate]
  exact Update.voiceAt_apply_congr _ hvoice

theorem exec_read_dout_congr {i : Instr} {u : VoiceNum} {s s' t t' : State}
    (hi : cmdVoice i = some u) (hread : isReadCmd i = true) (ht : exec i s = .next t)
    (ht' : exec i s' = .next t') (hcfg : s.cfg = s'.cfg) (hvoice : voiceAt s u = voiceAt s' u)
    (hpresent : voiceAt s u ≠ none) : t.dout = t'.dout := by
  obtain ⟨V, hV⟩ := Option.ne_none_iff_exists'.mp hpresent
  cases i with
  | rdReg v a =>
    obtain rfl := Option.some.inj hi
    rw [exec_next_unique (exec_rdReg_some a hV) ht,
      exec_next_unique (exec_rdReg_some a (hvoice ▸ hV)) ht', hcfg]
    rfl
  | _ => cases hread

/-! The second clause: the exchange of two adjacent words. -/

theorem Update.apply_comm {U W : Update} (h : U.Disjoint W) (s : State) :
    W.apply (U.apply s) = U.apply (W.apply s) := by
  cases U with
  | keep => rfl
  | dout x =>
    cases W with
    | dout y => exact h.elim
    | _ => rfl
  | voice u V =>
    cases W with
    | voice v X => exact putVoice_comm h s V X
    | _ => rfl

theorem Update.keep_disjoint (W : Update) : Update.keep.Disjoint W := by cases W <;> trivial

theorem cmdUpdate_disjoint {i j : Instr}
    (hvoice : ∀ u v, cmdVoice i = some u → cmdVoice j = some v → u ≠ v)
    (hread : ¬ (isReadCmd i = true ∧ isReadCmd j = true)) (s : State) :
    (cmdUpdate s i).Disjoint (cmdUpdate s j) := by
  rcases cmdUpdate_cases s i with hi | ⟨x, hri, hi⟩ | ⟨u, U, hu, hi⟩
  · rw [hi]
    exact Update.keep_disjoint _
  · rw [hi]
    rcases cmdUpdate_cases s j with hj | ⟨y, hrj, hj⟩ | ⟨v, V, -, hj⟩
    · exact hj ▸ trivial
    · exact (hread ⟨hri, hrj⟩).elim
    · exact hj ▸ trivial
  · rw [hi]
    rcases cmdUpdate_cases s j with hj | ⟨y, -, hj⟩ | ⟨v, V, hv, hj⟩
    · exact hj ▸ trivial
    · exact hj ▸ trivial
    · exact hj ▸ hvoice u v hu hv

/-- A command on another voice leaves the update of a command as it was. -/
theorem cmdUpdate_exec {i j : Instr} {s t : State} (h : exec i s = .next t)
    (hvoice : ∀ v, cmdVoice j = some v → cmdVoice i ≠ some v) :
    cmdUpdate t j = cmdUpdate s j := by
  obtain ⟨hcfg, hframe⟩ := exec_frame h
  exact cmdUpdate_congr hcfg fun v hv => hframe v (hvoice v hv)

theorem runCmds_pair {i j : Instr} (hvoice : ∀ v, cmdVoice j = some v → cmdVoice i ≠ some v)
    (s : State) :
    runCmds [i, j] s = .next ((cmdUpdate s j).apply ((cmdUpdate s i).apply s)) := by
  have hi : exec i s = .next ((cmdUpdate s i).apply s) := exec_eq_cmdUpdate i s
  rw [runCmds_cons_next _ hi, runCmds_cons_next _ (exec_eq_cmdUpdate j _), cmdUpdate_exec hi hvoice]
  rfl

/-- Two commands on different voices, not both `RD_REG`, may be exchanged. -/
theorem runCmds_exchange {i j : Instr}
    (hvoice : ∀ u v, cmdVoice i = some u → cmdVoice j = some v → u ≠ v)
    (hread : ¬ (isReadCmd i = true ∧ isReadCmd j = true)) (s : State) :
    runCmds [i, j] s = runCmds [j, i] s := by
  rw [runCmds_pair (fun v hj hi => hvoice v v hi hj rfl) s,
    runCmds_pair (fun v hi hj => hvoice v v hi hj rfl) s,
    Update.apply_comm (cmdUpdate_disjoint hvoice hread s)]

/-- The voice a decoded word names is its voice field. -/
theorem eq_fieldV_of_cmdVoice_decode {w : Word} {v : VoiceNum}
    (h : cmdVoice (decode w) = some v) : v = fieldV w := by
  unfold decode at h
  split at h <;> cases h <;> rfl

/-- Settles O45: a command is one update found from its own voice, so it touches nothing else; the
updates of two words with different voice fields, not both reads, commute. -/
theorem voicesAreIndependent : Obligations.VoicesAreIndependent := by
  refine ⟨fun i u hi => ⟨fun s t h => ⟨fun w hw => ?_, exec_dout_of_not_read h⟩,
    fun s s' t t' ht ht' hcfg hvoice => ⟨exec_voiceAt_congr hi ht ht' hcfg hvoice,
      fun hread => exec_read_dout_congr hi hread ht ht' hcfg hvoice⟩⟩,
    fun s x y hne hread => runCmds_exchange (fun u v hu hv huv => hne ?_) hread s⟩
  · obtain ⟨-, hframe⟩ := exec_frame h
    exact hframe w fun he => hw (Option.some.inj (he.symm.trans hi))
  · exact (eq_fieldV_of_cmdVoice_decode hu).symm.trans
      (huv.trans (eq_fieldV_of_cmdVoice_decode hv))

end Sys2Proof.Machine
end

section
/-! PROOFS. The command word (R80 to R90): a word is its four fields, the decoder reads the command
from them, and one row of the opcode table matches it. -/

namespace Sys2Proof

/-! The fields of a word as numbers, and the word made of them again (R81, R88). -/

theorem fieldOpc_toNat (w : Word) : (fieldOpc w).toNat = w.toNat / 2 ^ 28 := by
  have := w.isLt
  simp only [fieldOpc, BitVec.extractLsb'_toNat, Nat.shiftRight_eq_div_pow]
  omega

theorem fieldV_toNat (w : Word) : (fieldV w).toNat = w.toNat / 2 ^ 24 % 16 := by
  simp only [fieldV, BitVec.extractLsb'_toNat, Nat.shiftRight_eq_div_pow, Nat.reducePow]

theorem fieldA_toNat (w : Word) : (fieldA w).toNat = w.toNat / 2 ^ 16 % 256 := by
  simp only [fieldA, BitVec.extractLsb'_toNat, Nat.shiftRight_eq_div_pow, Nat.reducePow]

theorem fieldD_toNat (w : Word) : (fieldD w).toNat = w.toNat % 65536 := by
  simp only [fieldD, BitVec.extractLsb'_toNat, Nat.shiftRight_zero, Nat.reducePow]

theorem enc_fields (w : Word) : enc (fieldOpc w) (fieldV w) (fieldA w) (fieldD w) = w := by
  apply BitVec.eq_of_toNat_eq
  rw [enc_toNat, fieldOpc_toNat, fieldV_toNat, fieldA_toNat, fieldD_toNat]
  omega

/-! The decoder, as the operand assembly of the selected opcode on the fields (R83, R84). -/

/-- The command of an opcode, its operands taken from the fields of a word (R82, R83). -/
def Opcode.assemble (o : Opcode) (v : VoiceNum) (a : Addr) (d : Data) : Instr :=
  match o with
  | .nop => .nop
  | .wrReg => .wrReg v a d
  | .rdReg => .rdReg v a
  | .keyOn => .keyOn v
  | .keyOff => .keyOff v
  | .sample => .sample v
  | .tick => .tick v
  | .setCtrl => .setCtrl v a (d.setWidth 7)
  | .setPbend => .setPbend v (d.setWidth 14)
  | .rsvd9 => .rsvd9
  | .rsvdA => .rsvdA
  | .rsvdB => .rsvdB
  | .rsvdC => .rsvdC
  | .rsvdD => .rsvdD
  | .rsvdE => .rsvdE
  | .rsvdF => .rsvdF

theorem decode_eq_assemble (w : Word) :
    decode w = (opcodeOf (fieldOpc w)).assemble (fieldV w) (fieldA w) (fieldD w) := by
  unfold decode
  cases opcodeOf (fieldOpc w) <;> rfl

@[simp] theorem opcode_assemble (o : Opcode) (v : VoiceNum) (a : Addr) (d : Data) :
    (o.assemble v a d).opcode = o := by
  cases o <;> rfl

theorem opcode_decode (w : Word) : (decode w).opcode = opcodeOf (fieldOpc w) := by
  rw [decode_eq_assemble, opcode_assemble]

/-- Decoding a word written from its fields assembles the command of its opcode from them. -/
theorem decode_enc (o : Opcode) (v : VoiceNum) (a : Addr) (d : Data) :
    decode (enc (opcodeBits o) v a d) = o.assemble v a d := by
  rw [decode_eq_assemble, fieldOpc_enc, fieldV_enc, fieldA_enc, fieldD_enc, opcodeOf_opcodeBits]

/-! The round trip. -/

/-- Zero-extending an operand into its field and truncating it again gives it back (R83). -/
theorem setWidth_setWidth_self {m n : Nat} (h : m ≤ n) (x : BitVec m) :
    (x.setWidth n).setWidth m = x := by
  rw [BitVec.setWidth_setWidth_of_le x h, BitVec.setWidth_eq]

/-- Settles O1: `encode` writes the fields of the command's row, `decode_enc` assembles the command
from them; the two operands narrower than `D` come back from their zero-extension. -/
theorem decodeOfEncode : Obligations.DecodeOfEncode := by
  intro i _
  cases i with
  | nop => exact decode_enc .nop 0 0 0
  | wrReg v a d => exact decode_enc .wrReg v a d
  | rdReg v a => exact decode_enc .rdReg v a 0
  | keyOn v => exact decode_enc .keyOn v 0 0
  | keyOff v => exact decode_enc .keyOff v 0 0
  | sample v => exact decode_enc .sample v 0 0
  | tick v => exact decode_enc .tick v 0 0
  | setCtrl v n x =>
    exact (decode_enc .setCtrl v n _).trans
      (congrArg (Instr.setCtrl v n) (setWidth_setWidth_self (by decide) x))
  | setPbend v x =>
    exact (decode_enc .setPbend v 0 _).trans
      (congrArg (Instr.setPbend v) (setWidth_setWidth_self (by decide) x))
  | rsvd9 => exact decode_enc .rsvd9 0 0 0
  | rsvdA => exact decode_enc .rsvdA 0 0 0
  | rsvdB => exact decode_enc .rsvdB 0 0 0
  | rsvdC => exact decode_enc .rsvdC 0 0 0
  | rsvdD => exact decode_enc .rsvdD 0 0 0
  | rsvdE => exact decode_enc .rsvdE 0 0 0
  | rsvdF => exact decode_enc .rsvdF 0 0 0

/-! The format and the opcode map. -/

/-- The low bits of a word are its remainder. -/
theorem setWidth_eq_ofNat_mod {m : Nat} (n : Nat) (x : BitVec m) :
    x.setWidth n = BitVec.ofNat n (x.toNat % 2 ^ n) := by
  apply BitVec.eq_of_toNat_eq
  simp

/-- Settles O2: the fields are quotients and remainders of the word, and each row of the map is
`decode_enc` at its opcode. -/
theorem commandWordFormat : Obligations.CommandWordFormat := by
  refine ⟨fun w => ⟨fieldOpc_toNat w, fieldV_toNat w, fieldA_toNat w, fieldD_toNat w,
    enc_fields w⟩, fun v a d => ⟨decode_enc .nop v a d, decode_enc .wrReg v a d,
    decode_enc .rdReg v a d, decode_enc .keyOn v a d, decode_enc .keyOff v a d,
    decode_enc .sample v a d, decode_enc .tick v a d, ?setCtrl, ?setPbend,
    decode_enc .rsvd9 v a d, decode_enc .rsvdA v a d, decode_enc .rsvdB v a d,
    decode_enc .rsvdC v a d, decode_enc .rsvdD v a d, decode_enc .rsvdE v a d,
    decode_enc .rsvdF v a d⟩⟩
  case setCtrl =>
    exact (decode_enc .setCtrl v a d).trans
      (congrArg (Instr.setCtrl v a) (setWidth_eq_ofNat_mod 7 d))
  case setPbend =>
    exact (decode_enc .setPbend v a d).trans
      (congrArg (Instr.setPbend v) (setWidth_eq_ofNat_mod 14 d))

/-! The rows of the opcode table (R87). -/

theorem opcodeBits_opcodeOf (b : OpcBits) : opcodeBits (opcodeOf b) = b := by
  revert b
  decide

/-- A row's mask keeps the opcode field and clears the others. -/
theorem and_opcodeMask (w : Word) : w &&& 0xF0000000 = enc (fieldOpc w) 0 0 0 := by
  calc w &&& 0xF0000000
      = (fieldOpc w ++ fieldV w ++ fieldA w ++ fieldD w) &&&
          (BitVec.allOnes 4 ++ 0#4 ++ 0#8 ++ 0#16) := congrArg (· &&& _) (enc_fields w).symm
    _ = fieldOpc w ++ 0#4 ++ 0#8 ++ 0#16 := by
        simp only [BitVec.and_append, BitVec.and_allOnes, BitVec.and_zero]

theorem opcodeTable_row {r : OpcodeRow} (hr : r ∈ opcodeTable) :
    r.mask = 0xF0000000 ∧ r.pattern = enc (opcodeBits r.opcode) 0 0 0 := by
  revert r
  decide

/-- A row matches a word exactly when the word's opcode field selects the row's opcode (R84). -/
theorem hits_iff {r : OpcodeRow} (hr : r ∈ opcodeTable) (w : Word) :
    r.hits w = true ↔ r.opcode = opcodeOf (fieldOpc w) := by
  obtain ⟨hmask, hpattern⟩ := opcodeTable_row hr
  rw [OpcodeRow.hits, beq_iff_eq, hmask, hpattern, and_opcodeMask]
  constructor
  · intro h
    have hopc : fieldOpc w = opcodeBits r.opcode := by
      simpa only [fieldOpc_enc] using congrArg fieldOpc h
    rw [hopc, opcodeOf_opcodeBits]
  · intro h
    rw [h, opcodeBits_opcodeOf]

/-- Every opcode has one row. -/
theorem opcodeTable_filter_opcode (o : Opcode) :
    (opcodeTable.filter fun r => r.opcode = o).map OpcodeRow.opcode = [o] := by
  cases o <;> rfl

/-- Settles O3: the rows that match a word are those of its opcode (`hits_iff`), every opcode has
one row, and the decoder reads that opcode. -/
theorem everyWordMatchesOneRow : Obligations.EveryWordMatchesOneRow := by
  refine ⟨fun r => opcodeTable_row, fun w => ?_⟩
  have hfilter : (opcodeTable.filter fun r => r.hits w) =
      opcodeTable.filter fun r => r.opcode = opcodeOf (fieldOpc w) :=
    List.filter_congr fun r hr => by rw [Bool.eq_iff_iff, hits_iff hr, decide_eq_true_iff]
  rw [hfilter, opcodeTable_filter_opcode, opcode_decode]

/-! A voice out of range, and the examples. -/

namespace Machine

/-- Settles O9: the only voice a decoded word can name is its field `V`, and that one is absent, so
the command keeps the state. -/
theorem outOfRangeVoiceIgnored : Obligations.OutOfRangeVoiceIgnored := by
  intro s w hv
  have habsent : ∀ v, cmdVoice (decode w) = some v → voiceAt s v = none := fun v hw =>
    voiceAt_eq_none_of_le (eq_fieldV_of_cmdVoice_decode hw ▸ hv)
  rw [exec_eq_cmdUpdate, cmdUpdate_of_absent habsent, Update.apply]

/-- Settles O4: each word is R88's `enc` of the fields given here, and `decode_enc` reads it. -/
theorem decoderReadsTheSpecWords : Obligations.DecoderReadsTheSpecWords :=
  ⟨decode_enc .nop 0 0 0, decode_enc .wrReg 0 0x60 31, decode_enc .wrReg 1 0x2E 0x2A,
    decode_enc .rdReg 0 0xE0 0, decode_enc .keyOn 1 0 0, decode_enc .keyOff 1 0 0,
    decode_enc .sample 0 0 0, decode_enc .tick 0 0 0, decode_enc .setCtrl 0 1 127,
    decode_enc .setCtrl 0 128 64, decode_enc .setPbend 0 0 0x2000⟩

end Machine

end Sys2Proof
end

section
/-! PROOFS. Executing a decoded word (R114), once per kind of command: a command on a voice that is
absent keeps the state, on one that exists it replaces the record. With it the commands that change
nothing: an idle port, `NOP` and the reserved opcodes (R100, R111). -/

namespace Sys2Proof

theorem Instr.wf_eq_true (i : Instr) : i.wf = true := by cases i <;> rfl

namespace Machine

theorem exec_out_of_range {i : Instr} {s : State} {v : VoiceNum} (hi : cmdVoice i = some v)
    (h : s.cfg.nvoice ≤ v.toNat) : exec i s = .next s := by
  have habsent : ∀ u, cmdVoice i = some u → voiceAt s u = none := fun u hu => by
    rw [← Option.some.inj (hi.symm.trans hu)]
    exact voiceAt_eq_none_of_le h
  rw [exec_eq_cmdUpdate, cmdUpdate_of_absent habsent, Update.apply]

theorem exec_on_voice {i : Instr} {s : State} {v : VoiceNum} {V : Voice} (hi : cmdVoice i = some v)
    (hread : isReadCmd i = false) (hV : voiceAt s v = some V) :
    exec i s = .next (putVoice s v (voiceEffect s.cfg i V)) := by
  rw [exec_eq_cmdUpdate, cmdUpdate_of_voice hi hV, ownUpdate_of_not_read _ _ _ hread, Update.apply]

theorem fetch_of_cons {s : State} {w : Word} {rest : List Word} (h : s.port = w :: rest) :
    fetch s = (w, { s with port := rest }) := by simp only [fetch, h]

theorem fetch_of_nil {s : State} (h : s.port = []) : fetch s = (0, s) := by simp only [fetch, h]

/-- Settles O5: `step` executes what `fetch` takes, an idle port gives the word of `NOP`, and
`exec_total` gives the next state. -/
theorem stepRunsTheDecodedCommand : Obligations.StepRunsTheDecodedCommand := by
  refine ⟨fun s w rest h => ⟨(decode w).wf_eq_true, ?_⟩, fun s h => ?_, fun s => exec_total _ _⟩
  · rw [step, fetch_of_cons h]
  · have hnop : decode 0 = .nop := decode_enc .nop 0 0 0
    rw [step, fetch_of_nil h, hnop]
    rfl

/-- Settles O7: `decode_enc` at the opcode 0, and the two words as R88's `enc` of their fields. -/
theorem nopChangesNothing : Obligations.NopChangesNothing :=
  ⟨decode_enc .nop, decode_enc .nop 0 0 0, decode_enc .nop 0xF 0xFF 0xFFFF, fun _ => rfl⟩

/-- The opcodes from 9 up are the reserved ones, and their commands keep the state. -/
theorem exec_assemble_reserved {o : Opcode} (h : 9 ≤ (opcodeBits o).toNat) (v : VoiceNum) (a : Addr)
    (d : Data) (s : State) : exec (o.assemble v a d) s = .next s := by
  cases o with
  | rsvd9 => rfl
  | rsvdA => rfl
  | rsvdB => rfl
  | rsvdC => rfl
  | rsvdD => rfl
  | rsvdE => rfl
  | rsvdF => rfl
  | _ => exact absurd h (by decide)

/-- Settles O8: an opcode field of 9 or more is the code of a reserved opcode, so the word assembles
a reserved command. -/
theorem reservedOpcodesChangeNothing : Obligations.ReservedOpcodesChangeNothing := by
  refine ⟨fun s => ⟨rfl, rfl, rfl, rfl, rfl, rfl, rfl⟩, fun opc v a d s h => ?_⟩
  rw [← opcodeBits_opcodeOf opc] at h ⊢
  rw [decode_enc]
  exact exec_assemble_reserved h v a d s

end Machine

end Sys2Proof
end

section
/-! PROOFS. Register writes and reads as numbers (R101, R104): the register written holds the data
reduced to its width, every other register keeps its value, and a read gives the value back. -/

namespace Sys2Proof

@[simp] theorem PerOp.set_get_self {α : Type} (p : PerOp α) (o : OpNum) : p.set o (p.get o) = p := by
  cases o <;> rfl

theorem PerSeg.ext_get {α : Type} {p q : PerSeg α} (h : ∀ i, p.get i = q.get i) : p = q := by
  cases p
  cases q
  simp only [PerSeg.mk.injEq]
  exact ⟨h .attack, h .decay1, h .decay2, h .release⟩

theorem PerCtrl.ext_get {α : Type} {p q : PerCtrl α} (h : ∀ i, p.get i = q.get i) : p = q := by
  cases p
  cases q
  simp only [PerCtrl.mk.injEq]
  exact ⟨h .modWheel, h .foot, h .breath, h .afterTouch⟩

namespace Machine

/-! Operator registers. -/

theorem opRegVal_opRegWrite_same (c : Cfg) (p : OpRec) (r : OpReg) (d : Data) :
    opRegVal (opRegWrite c p r d) r = d.toNat % 2 ^ opRegWidth c r := by
  cases r with
  | pitch => exact (Nat.mod_eq_of_lt d.isLt).symm
  | egRate g => exact PerSeg.get_set_same _ g _
  | egLevel g => exact PerSeg.get_set_same _ g _
  | _ => exact BitVec.toNat_setWidth _ _

/-- Another register is another field, or another entry of the same field. -/
theorem opRegVal_opRegWrite_ne (c : Cfg) (p : OpRec) {r r' : OpReg} (d : Data) (h : r' ≠ r) :
    opRegVal (opRegWrite c p r d) r' = opRegVal p r' := by
  cases r with
  | egRate g =>
    cases r' with
    | egRate g' => exact PerSeg.get_set_ne _ _ fun e => h (congrArg _ e)
    | _ => rfl
  | egLevel g =>
    cases r' with
    | egLevel g' => exact PerSeg.get_set_ne _ _ fun e => h (congrArg _ e)
    | _ => rfl
  | _ => cases r' <;> first | rfl | exact absurd rfl h

/-- The registers and the runtime state are the whole operator record. -/
theorem OpRec.eq_of_opRegVal_eq {p q : OpRec} (h : ∀ r, opRegVal p r = opRegVal q r)
    (hphase : p.phase = q.phase) (hcur : p.egCur = q.egCur) (hstage : p.egStage = q.egStage) :
    p = q := by
  cases p
  cases q
  simp only [OpRec.mk.injEq]
  exact ⟨BitVec.eq_of_toNat_eq (h .pitch), BitVec.eq_of_toNat_eq (h .mode),
    BitVec.eq_of_toNat_eq (h .detune), BitVec.eq_of_toNat_eq (h .olatt),
    BitVec.eq_of_toNat_eq (h .ams), BitVec.eq_of_toNat_eq (h .rs),
    PerSeg.ext_get fun g => h (.egRate g), PerSeg.ext_get fun g => h (.egLevel g),
    hphase, hcur, hstage⟩

theorem opRegWrite_held {c : Cfg} {p : OpRec} {r : OpReg} {d : Data}
    (h : d.toNat % 2 ^ opRegWidth c r = opRegVal p r) : opRegWrite c p r d = p := by
  obtain ⟨hphase, hcur, hstage⟩ := opRegWrite_runtime c p r d
  refine OpRec.eq_of_opRegVal_eq (fun r' => ?_) hphase hcur hstage
  rcases eq_or_ne r' r with rfl | hne
  · rw [opRegVal_opRegWrite_same, h]
  · exact opRegVal_opRegWrite_ne c p d hne

theorem opRegVal_lt {c : Cfg} {p : OpRec} (hp : p.wf c = true) (r : OpReg) :
    opRegVal p r < 2 ^ opRegWidth c r := by
  obtain ⟨hrate, hlevel, -, -⟩ := (p.wf_iff c).mp hp
  cases r with
  | egRate g => exact hrate g
  | egLevel g => exact hlevel g
  | _ => exact BitVec.isLt _

theorem opRegWidth_le {c : Cfg} (hc : c.wf = true) (r : OpReg) : opRegWidth c r ≤ 16 := by
  have hcode := Cfg.wf_egCodeW hc
  cases r <;> simp only [opRegWidth] <;> omega

/-- A read of an operator register is its value, which fits `DOUT` (R104). -/
theorem opRegRead_toNat {c : Cfg} (hc : c.wf = true) {p : OpRec} (hp : p.wf c = true) (r : OpReg) :
    (opRegRead p r).toNat = opRegVal p r := by
  have hlt : opRegVal p r < 2 ^ 32 := (opRegVal_lt hp r).trans_le
    (Nat.pow_le_pow_right (by decide) ((opRegWidth_le hc r).trans (by decide)))
  cases r with
  | egRate g => exact toNat_ofNat_of_lt hlt
  | egLevel g => exact toNat_ofNat_of_lt hlt
  | _ => exact BitVec.toNat_setWidth_of_le (by decide)

/-! Voice registers. -/

/-- The voice `V` with the voice registers of `W`: operator records and runtime state are `V`'s. -/
def Voice.withRegs (V W : Voice) : Voice :=
  { V with
    alg := W.alg, fbl := W.fbl, vpitch := W.vpitch, pbend := W.pbend, pms := W.pms
    pegRate := W.pegRate, pegLevel := W.pegLevel, lfoInc := W.lfoInc
    lfoDelayInc := W.lfoDelayInc, lfoFadeInc := W.lfoFadeInc, lfoPmd := W.lfoPmd
    lfoAmd := W.lfoAmd, lfoWave := W.lfoWave, lfoSync := W.lfoSync
    mixRange := W.mixRange, mixAssign := W.mixAssign, mixRaw := W.mixRaw }

@[simp] theorem voiceRegVal_withRegs (V W : Voice) (r : VoiceReg) :
    voiceRegVal (V.withRegs W) r = voiceRegVal W r := by cases r <;> rfl

/-- Registers with equal values may be exchanged. -/
theorem Voice.withRegs_eq_self {V W : Voice} (h : ∀ r, voiceRegVal W r = voiceRegVal V r) :
    V.withRegs W = V := by
  have hbits {n : Nat} {x y : BitVec n} (e : x.toNat = y.toNat) : x = y := BitVec.eq_of_toNat_eq e
  simp only [Voice.withRegs, hbits (h .alg), hbits (h .fbl), hbits (h .vpitch), hbits (h .pbend),
    hbits (h .pms), PerSeg.ext_get fun g => hbits (h (.pegRate g)),
    PerSeg.ext_get fun g => hbits (h (.pegLevel g)), hbits (h .lfoInc), hbits (h .lfoDelayInc),
    hbits (h .lfoFadeInc), hbits (h .lfoPmd), hbits (h .lfoAmd), hbits (h .lfoWave),
    hbits (h .lfoSync), PerCtrl.ext_get fun k => hbits (h (.mixRange k)),
    PerCtrl.ext_get fun k => hbits (h (.mixAssign k)), PerCtrl.ext_get fun k => hbits (h (.mixRaw k))]

theorem voiceRegWrite_withRegs (V : Voice) (r : VoiceReg) (d : Data) :
    V.withRegs (voiceRegWrite V r d) = voiceRegWrite V r d := by
  rw [voiceRegWrite_runtime]
  rfl

/-- The register written holds the data reduced to its width; `ALG` ignores data above 31 (R33). -/
theorem voiceRegVal_voiceRegWrite_same (V : Voice) {r : VoiceReg} {d : Data}
    (h : r = .alg → d.toNat ≤ 31) :
    voiceRegVal (voiceRegWrite V r d) r = d.toNat % 2 ^ voiceRegWidth r := by
  have hdata : d.toNat = d.toNat % 2 ^ 16 := (Nat.mod_eq_of_lt d.isLt).symm
  cases r with
  | alg =>
    rw [voiceRegWrite_alg_of_le V (h rfl)]
    exact BitVec.toNat_setWidth _ _
  | vpitch => exact hdata
  | lfoInc => exact hdata
  | lfoDelayInc => exact hdata
  | lfoFadeInc => exact hdata
  | pegRate g => exact (congrArg BitVec.toNat (PerSeg.get_set_same _ g _)).trans hdata
  | pegLevel g =>
    exact (congrArg BitVec.toNat (PerSeg.get_set_same _ g _)).trans (BitVec.toNat_setWidth _ _)
  | mixRange k =>
    exact (congrArg BitVec.toNat (PerCtrl.get_set_same _ k _)).trans (BitVec.toNat_setWidth _ _)
  | mixAssign k =>
    exact (congrArg BitVec.toNat (PerCtrl.get_set_same _ k _)).trans (BitVec.toNat_setWidth _ _)
  | mixRaw k =>
    exact (congrArg BitVec.toNat (PerCtrl.get_set_same _ k _)).trans (BitVec.toNat_setWidth _ _)
  | _ => exact BitVec.toNat_setWidth _ _

/-- Another register is another field, or another entry of the same field; an ignored write to `ALG`
keeps them all. -/
theorem voiceRegVal_voiceRegWrite_ne (V : Voice) {r r' : VoiceReg} (d : Data) (h : r' ≠ r) :
    voiceRegVal (voiceRegWrite V r d) r' = voiceRegVal V r' := by
  cases r with
  | alg =>
    rcases Nat.lt_or_ge 31 d.toNat with hd | hd
    · rw [voiceRegWrite_alg_of_gt V hd]
    · rw [voiceRegWrite_alg_of_le V hd]
      cases r' <;> first | rfl | exact absurd rfl h
  | pegRate g =>
    cases r' with
    | pegRate g' =>
      exact congrArg BitVec.toNat (PerSeg.get_set_ne _ _ fun e => h (congrArg _ e))
    | _ => rfl
  | pegLevel g =>
    cases r' with
    | pegLevel g' =>
      exact congrArg BitVec.toNat (PerSeg.get_set_ne _ _ fun e => h (congrArg _ e))
    | _ => rfl
  | mixRange k =>
    cases r' with
    | mixRange k' =>
      exact congrArg BitVec.toNat (PerCtrl.get_set_ne _ _ fun e => h (congrArg _ e))
    | _ => rfl
  | mixAssign k =>
    cases r' with
    | mixAssign k' =>
      exact congrArg BitVec.toNat (PerCtrl.get_set_ne _ _ fun e => h (congrArg _ e))
    | _ => rfl
  | mixRaw k =>
    cases r' with
    | mixRaw k' =>
      exact congrArg BitVec.toNat (PerCtrl.get_set_ne _ _ fun e => h (congrArg _ e))
    | _ => rfl
  | _ => cases r' <;> first | rfl | exact absurd rfl h

theorem voiceRegVal_lt (V : Voice) (r : VoiceReg) : voiceRegVal V r < 2 ^ voiceRegWidth r := by
  cases r <;> exact BitVec.isLt _

theorem voiceRegWidth_le (r : VoiceReg) : voiceRegWidth r ≤ 16 := by
  cases r <;> simp only [voiceRegWidth] <;> omega

theorem voiceRegWrite_held {V : Voice} {r : VoiceReg} {d : Data} (h : d.toNat = voiceRegVal V r) :
    voiceRegWrite V r d = V := by
  have halg : r = .alg → d.toNat ≤ 31 := by
    rintro rfl
    exact h ▸ Nat.le_of_lt_succ (voiceRegVal_lt V .alg)
  rw [← voiceRegWrite_withRegs]
  refine Voice.withRegs_eq_self fun r' => ?_
  rcases eq_or_ne r' r with rfl | hne
  · rw [voiceRegVal_voiceRegWrite_same V halg, h, Nat.mod_eq_of_lt (voiceRegVal_lt V r')]
  · exact voiceRegVal_voiceRegWrite_ne V d hne

/-- A read of a voice register is its value (R104). -/
theorem voiceRegRead_toNat (V : Voice) (r : VoiceReg) :
    (voiceRegRead V r).toNat = voiceRegVal V r := by
  cases r <;> exact BitVec.toNat_setWidth_of_le (by decide)

/-! The register commands. -/

/-- Settles O11: the record is `opRegWrite`'s; the register written and the others by the two
lemmas on its values, the runtime state by `opRegWrite_runtime`. -/
theorem writeOperatorRegister : Obligations.WriteOperatorRegister := by
  intro s v V o r d hV
  refine ⟨opRegWrite s.cfg (V.ops.get o) r d, ?_, opRegVal_opRegWrite_same _ _ r d,
    fun r' => opRegVal_opRegWrite_ne _ _ d, opRegWrite_runtime _ _ r d⟩
  rw [exec_wrReg_some _ d hV, regWrite_opRegAddr]

/-- Settles O12: the record is `voiceRegWrite`'s; `ALG` is excluded, so no write is ignored and
`ALG` stays. -/
theorem writeVoiceRegister : Obligations.WriteVoiceRegister := by
  intro s v V r d hV hr
  refine ⟨voiceRegWrite V r d, ?_, voiceRegVal_voiceRegWrite_same V fun e => absurd e hr,
    fun r' => voiceRegVal_voiceRegWrite_ne V d, ?_⟩
  · rw [exec_wrReg_some _ d hV, regWrite_voiceRegAddr]
  · have halg : (voiceRegWrite V r d).alg = V.alg :=
      BitVec.eq_of_toNat_eq (voiceRegVal_voiceRegWrite_ne V (r' := .alg) d hr.symm)
    conv_lhs => rw [← voiceRegWrite_withRegs, Voice.withRegs, halg]

theorem regRead_of_op (c : Cfg) (V : Voice) {a : Addr} {o : OpNum} {r : OpReg}
    (h : regAt a = .op o r) : regRead c V a = opRegRead (V.ops.get o) r := by
  simp only [regRead, h]

theorem regRead_of_voice (c : Cfg) (V : Voice) {a : Addr} {r : VoiceReg}
    (h : regAt a = .voice r) : regRead c V a = voiceRegRead V r := by
  simp only [regRead, h]

/-- The low 16 bits of a value that fits 16 bits are the value. -/
theorem mod_65536_of_lt_two_pow {x w : Nat} (hx : x < 2 ^ w) (hw : w ≤ 16) : x % 65536 = x :=
  Nat.mod_eq_of_lt (hx.trans_le (Nat.pow_le_pow_right (by decide) hw))

/-- A record within its widths is left by the write of what it reads, at every address (R101). -/
theorem regWrite_held {c : Cfg} (hc : c.wf = true) {V : Voice} (hV : V.wf c = true) {a : Addr}
    {d : Data} (hd : d.toNat = (regRead c V a).toNat % 65536) : regWrite c V a d = V := by
  rcases regWrite_cases c V a d with ⟨o, r, ha, hw⟩ | ⟨r, ha, hw⟩ | ⟨-, hw⟩
  · obtain ⟨hops, -⟩ := (V.wf_iff c).mp hV
    have hlt := opRegVal_lt (hops o) r
    rw [regRead_of_op c V ha, opRegRead_toNat hc (hops o),
      mod_65536_of_lt_two_pow hlt (opRegWidth_le hc r)] at hd
    rw [hw, opRegWrite_held ((congrArg (· % _) hd).trans (Nat.mod_eq_of_lt hlt)), PerOp.set_get_self]
  · rw [regRead_of_voice c V ha, voiceRegRead_toNat,
      mod_65536_of_lt_two_pow (voiceRegVal_lt V r) (voiceRegWidth_le r)] at hd
    rw [hw, voiceRegWrite_held hd]
  · exact hw

/-- Settles O14: `regWrite_held` in the record of the voice, which is within its widths. -/
theorem writeHeldValueChangesNothing : Obligations.WriteHeldValueChangesNothing := by
  intro s v V a d hs hV hd
  obtain ⟨hcfg, -, -⟩ := s.wf_iff.mp hs
  exact exec_wrReg_unchanged hV (regWrite_held hcfg (Voice.wf_of_voiceAt hs hV) hd)

/-- Settles O15: `RD_REG` puts the read of the register on `DOUT`, and the read is its value. -/
theorem readStoredPattern : Obligations.ReadStoredPattern := by
  intro s v V hs hV
  obtain ⟨hcfg, -, -⟩ := s.wf_iff.mp hs
  obtain ⟨hops, -⟩ := (V.wf_iff s.cfg).mp (Voice.wf_of_voiceAt hs hV)
  refine ⟨fun o r => ⟨opRegRead (V.ops.get o) r, ?_, opRegRead_toNat hcfg (hops o) r⟩,
    fun r => ⟨voiceRegRead V r, ?_, voiceRegRead_toNat V r⟩⟩
  · rw [exec_rdReg_some _ hV, regRead_opRegAddr]
  · rw [exec_rdReg_some _ hV, regRead_voiceRegAddr]

end Machine

end Sys2Proof
end

section
/-! PROOFS. The gates and the performance controls (R105 to R108). -/

namespace Sys2Proof.Machine

/-! `KEY_ON` and `KEY_OFF`. -/

/-- Settles O17: the record is `keyOnVoice`'s, whose fields are R105's. -/
theorem keyOnGatesTheVoice : Obligations.KeyOnGatesTheVoice := by
  refine ⟨decode_enc .keyOn, fun s v h => exec_out_of_range rfl h, fun s v V hV => ?_⟩
  exact ⟨keyOnVoice V, exec_on_voice rfl rfl hV, fun o => PerOp.get_map _ _ o, rfl⟩

theorem stageKeyOff_idem (st : EgStage) : stageKeyOff (stageKeyOff st) = stageKeyOff st := by
  cases st <;> rfl

/-- A second `KEY_OFF` finds every stage at or past Release (R106). -/
theorem keyOffVoice_idem (V : Voice) : keyOffVoice (keyOffVoice V) = keyOffVoice V := by
  simp only [keyOffVoice, PerOp.map, stageKeyOff_idem]

/-- Settles O18: the record is `keyOffVoice`'s, and the second `KEY_OFF` puts the same record back. -/
theorem keyOffReleasesTheVoice : Obligations.KeyOffReleasesTheVoice := by
  refine ⟨decode_enc .keyOff, fun s v h => exec_out_of_range rfl h, fun s v V hV => ?_⟩
  refine ⟨keyOffVoice V, exec_on_voice rfl rfl hV, fun o => PerOp.get_map _ _ o, rfl, ?_⟩
  rw [exec_on_voice (i := .keyOff v) rfl rfl (voiceAt_putVoice_same _ hV), voiceEffect,
    keyOffVoice_idem, putVoice_putVoice]

/-! `SET_CTRL`. -/

theorem decode_enc_setCtrl (v : VoiceNum) (n : Addr) (d : Data) :
    decode (enc 0x7 v n d) = .setCtrl v n (BitVec.ofNat 7 (d.toNat % 128)) :=
  (decode_enc .setCtrl v n d).trans (congrArg (Instr.setCtrl v n) (setWidth_eq_ofNat_mod 7 d))

/-- The source of each controller number of R107; an `AT_NUM` that is another number's value is
left out. -/
theorem ctrlSource_eq_some {c : Cfg} {n : Addr} {k : Ctrl}
    (h : (k = .modWheel ∧ n = 1) ∨ (k = .foot ∧ n = 4) ∨ (k = .breath ∧ n = 2) ∨
      (k = .afterTouch ∧ n.toNat = c.atNum ∧ n ∉ [1, 4, 2, 64, 65])) :
    ctrlSource c n = some k := by
  rcases h with ⟨rfl, rfl⟩ | ⟨rfl, rfl⟩ | ⟨rfl, rfl⟩ | ⟨rfl, hat, hn⟩
  · rfl
  · rfl
  · rfl
  · simp only [List.mem_cons, not_or] at hn
    obtain ⟨h1, h4, h2, -⟩ := hn
    simp only [ctrlSource, if_neg h1, if_neg h4, if_neg h2, if_pos hat]

theorem ctrlSource_eq_none {c : Cfg} {n : Addr} (hn : n ∉ [1, 4, 2]) (hat : n.toNat ≠ c.atNum) :
    ctrlSource c n = none := by
  simp only [List.mem_cons, not_or] at hn
  obtain ⟨h1, h4, h2, -⟩ := hn
  simp only [ctrlSource, if_neg h1, if_neg h4, if_neg h2, if_neg hat]

theorem setCtrlVoice_of_source {c : Cfg} {n : Addr} {k : Ctrl} (h : ctrlSource c n = some k)
    (x : BitVec 7) (V : Voice) :
    setCtrlVoice c n x V = { V with mixRaw := V.mixRaw.set k x } := by simp only [setCtrlVoice, h]

theorem setCtrlVoice_of_no_source {c : Cfg} {n : Addr} (h : ctrlSource c n = none) (x : BitVec 7)
    (V : Voice) : setCtrlVoice c n x V = V := by simp only [setCtrlVoice, h]

/-- A controller with a source is the write of that source's raw register (R107). -/
theorem setCtrlVoice_eq_regWrite {c : Cfg} {n : Addr} {k : Ctrl} (h : ctrlSource c n = some k)
    (x : BitVec 7) (V : Voice) :
    setCtrlVoice c n x V = regWrite c V (voiceRegAddr (.mixRaw k)) (x.setWidth 16) := by
  rw [setCtrlVoice_of_source h, regWrite_voiceRegAddr, voiceRegWrite,
    setWidth_setWidth_self (by decide)]

/-- Settles O19: the source of the number decides what is written, and the write is that of the raw
register. -/
theorem setControllerWritesOneSource : Obligations.SetControllerWritesOneSource := by
  refine ⟨decode_enc_setCtrl, fun s v n x h => exec_out_of_range rfl h,
    fun s v V n x hV => ⟨fun k hk => ?_, fun hn hat => ?_⟩⟩
  · have hsource : ctrlSource s.cfg n = some k := ctrlSource_eq_some hk
    constructor
    · rw [exec_on_voice rfl rfl hV, voiceEffect, setCtrlVoice_of_source hsource]
    · rw [exec_on_voice rfl rfl hV, voiceEffect, setCtrlVoice_eq_regWrite hsource,
        exec_wrReg_some _ _ hV]
  · rw [exec_on_voice rfl rfl hV, voiceEffect,
      setCtrlVoice_of_no_source (ctrlSource_eq_none hn hat), putVoice_self hV]

/-! `SET_PBEND`. -/

theorem decode_enc_setPbend (v : VoiceNum) (a : Addr) (d : Data) :
    decode (enc 0x8 v a d) = .setPbend v (BitVec.ofNat 14 (d.toNat % 16384)) :=
  (decode_enc .setPbend v a d).trans (congrArg (Instr.setPbend v) (setWidth_eq_ofNat_mod 14 d))

/-- The word of `SET_PBEND` and the write of `PBEND` make the same change, whether or not the voice
exists. -/
theorem exec_setPbend_eq_wrReg (s : State) (v : VoiceNum) (d : Data) :
    exec (.setPbend v (d.setWidth 14)) s = exec (.wrReg v (voiceRegAddr .pbend) d) s :=
  congrArg (onVoice s v) (funext fun V => (regWrite_voiceRegAddr s.cfg V .pbend d).symm)

theorem pbOff_centre (c : Cfg) (V : Voice) : pbOff c { V with pbend := 0x2000 } = 0 := by
  simp [pbOff, asr_zero]

theorem pbOff_full {c : Cfg} (h : c.pbShift = 3) (V : Voice) :
    pbOff c { V with pbend := 0x3FFF } = 1023 := by
  simp [pbOff, asr, h]

/-- Settles O20: the record has the new bend, which is also the write of `PBEND`; the two offsets
are closed values. -/
theorem setPitchBendWritesTheBend : Obligations.SetPitchBendWritesTheBend := by
  refine ⟨decode_enc_setPbend, fun s v x h => exec_out_of_range rfl h,
    fun s v V x hV => exec_on_voice rfl rfl hV, fun s v a d => ?_,
    fun c V => ⟨pbOff_centre c V, fun h => pbOff_full h V⟩⟩
  have hdecode : decode (enc 0x8 v a d) = .setPbend v (d.setWidth 14) := decode_enc .setPbend v a d
  rw [hdecode, exec_setPbend_eq_wrReg]

end Sys2Proof.Machine
end

section
/-! PROOFS. `SAMPLE` over the six operators (R109, R113, R143), and the commands that leave every
parameter register (R115). -/

namespace Sys2Proof.Machine

/-! One turn of the sequencer, at the operator evaluated and at the others. -/

theorem seqEval_ops_get_same (c : Cfg) (V : Voice) (o : OpNum) :
    (seqEval c V o).ops.get o = operatorClocked c V o := by
  rw [seqEval, opEval_ops, PerOp.get_set_same]
  rfl

theorem seqEval_ops_get_ne (c : Cfg) (V : Voice) {o o' : OpNum} (h : o' ≠ o) :
    (seqEval c V o).ops.get o' = V.ops.get o' := by
  rw [seqEval, opEval_ops, PerOp.get_set_ne _ _ h]

/-- Evaluating one operator leaves the increment of another: it reads nothing the router writes. -/
theorem pinc_seqEval_ne (c : Cfg) (V : Voice) {o o' : OpNum} (h : o' ≠ o) :
    pinc c (seqEval c V o) o' = pinc c V o' := by
  apply pinc_congr c (seqEval_ops_get_ne c V h) <;> rw [seqEval, opEval_frame]

theorem operatorClocked_seqEval_ne (c : Cfg) (V : Voice) {o o' : OpNum} (h : o' ≠ o) :
    operatorClocked c (seqEval c V o) o' = operatorClocked c V o' := by
  simp only [operatorClocked, phaseAfter, pinc_seqEval_ne c V h, seqEval_ops_get_ne c V h]

/-! The turns of a list of operators. -/

theorem foldl_seqEval_ops_get_of_not_mem (c : Cfg) {o : OpNum} {l : List OpNum} (h : o ∉ l)
    (V : Voice) : (l.foldl (seqEval c) V).ops.get o = V.ops.get o := by
  induction l generalizing V with
  | nil => rfl
  | cons a l ih =>
    rw [List.foldl_cons, ih (List.not_mem_of_not_mem_cons h),
      seqEval_ops_get_ne c V (List.ne_of_not_mem_cons h)]

/-- Each operator of a list without repetition is clocked once, from the voice before all turns. -/
theorem foldl_seqEval_ops_get_of_mem (c : Cfg) {o : OpNum} {l : List OpNum} (hl : l.Nodup)
    (h : o ∈ l) (V : Voice) : (l.foldl (seqEval c) V).ops.get o = operatorClocked c V o := by
  induction l generalizing V with
  | nil => cases h
  | cons a l ih =>
    obtain ⟨ha, hl'⟩ := List.nodup_cons.mp hl
    rw [List.foldl_cons]
    rcases eq_or_ne o a with rfl | hne
    · rw [foldl_seqEval_ops_get_of_not_mem c ha, seqEval_ops_get_same]
    · rw [ih hl' (List.mem_of_ne_of_mem hne h), operatorClocked_seqEval_ne c V hne]

theorem evalOrder_nodup : evalOrder.Nodup := by decide

theorem mem_evalOrder (o : OpNum) : o ∈ evalOrder := by cases o <;> decide

/-- After a `SAMPLE` every operator record is the one before it, clocked once. -/
theorem sampleVoice_ops_get (c : Cfg) (V : Voice) (o : OpNum) :
    (sampleVoice c V).ops.get o = operatorClocked c V o :=
  foldl_seqEval_ops_get_of_mem c evalOrder_nodup (mem_evalOrder o) { V with sum := 0 }

/-- Settles O22: the operator records by `sampleVoice_ops_get`, the rest by `sampleVoice_frame`. -/
theorem sampleClocksEveryOperatorOnce : Obligations.SampleClocksEveryOperatorOnce := fun s _ V hV =>
  ⟨sampleVoice s.cfg V, exec_on_voice rfl rfl hV, sampleVoice_ops_get s.cfg V, rfl,
    sampleVoice_frame s.cfg V⟩

/-- Settles O23: the six turns of the sequencer over `evalOrder`, written out. -/
theorem sampleEvaluatesSixDownToOne : Obligations.SampleEvaluatesSixDownToOne := fun _ _ _ hV =>
  ⟨_, _, _, _, _, _, rfl, rfl, rfl, rfl, rfl, rfl, exec_on_voice rfl rfl hV⟩

/-! Commands that write no parameter register. -/

/-- Two voices whose operator and voice registers hold the same values. -/
def SameRegisters (W V : Voice) : Prop :=
  (∀ o r, opRegVal (W.ops.get o) r = opRegVal (V.ops.get o) r) ∧
    ∀ r, voiceRegVal W r = voiceRegVal V r

theorem SameRegisters.refl (V : Voice) : SameRegisters V V := ⟨fun _ _ => rfl, fun _ => rfl⟩

/-- The registers of an operator do not see its runtime state. -/
theorem opRegVal_runtime (p : OpRec) (phase cur : Nat) (stage : EgStage) (r : OpReg) :
    opRegVal { p with phase := phase, egCur := cur, egStage := stage } r = opRegVal p r := by
  cases r <;> rfl

/-- Registers stay where every operator changes in its runtime state only and the voice registers
are those of before. -/
theorem sameRegisters_of_frame {V W : Voice}
    (hops : ∀ o, W.ops.get o = { V.ops.get o with
      phase := (W.ops.get o).phase, egCur := (W.ops.get o).egCur, egStage := (W.ops.get o).egStage })
    (hregs : W = W.withRegs V) : SameRegisters W V := by
  refine ⟨fun o r => ?_, fun r => ?_⟩
  · rw [hops o, opRegVal_runtime]
  · rw [hregs, voiceRegVal_withRegs]

theorem keyOnVoice_sameRegisters (V : Voice) : SameRegisters (keyOnVoice V) V :=
  sameRegisters_of_frame (fun o => by simp only [keyOnVoice, lfoKeyOn, PerOp.get_map]) rfl

theorem keyOffVoice_sameRegisters (V : Voice) : SameRegisters (keyOffVoice V) V :=
  sameRegisters_of_frame (fun o => by simp only [keyOffVoice, PerOp.get_map]) rfl

theorem sampleVoice_sameRegisters (c : Cfg) (V : Voice) : SameRegisters (sampleVoice c V) V := by
  refine sameRegisters_of_frame (fun o => ?_) ?_
  · rw [sampleVoice_ops_get]
    rfl
  · rw [sampleVoice_frame]
    rfl

theorem tickVoice_sameRegisters (c : Cfg) (V : Voice) : SameRegisters (tickVoice c V) V := by
  rw [tickVoice_frame]
  exact sameRegisters_of_frame (fun _ => rfl) rfl

theorem voiceEffect_sameRegisters (c : Cfg) {i : Instr} (V : Voice) (hwr : i.opcode ≠ .wrReg)
    (hctrl : i.opcode ≠ .setCtrl) (hbend : i.opcode ≠ .setPbend) :
    SameRegisters (voiceEffect c i V) V := by
  cases i with
  | wrReg v a d => exact absurd rfl hwr
  | setCtrl v n x => exact absurd rfl hctrl
  | setPbend v x => exact absurd rfl hbend
  | keyOn v => exact keyOnVoice_sameRegisters V
  | keyOff v => exact keyOffVoice_sameRegisters V
  | sample v => exact sampleVoice_sameRegisters c V
  | tick v => exact tickVoice_sameRegisters c V
  | _ => exact SameRegisters.refl V

/-- Settles O49: a command leaves the record of a voice, or applies its effect to it, and the
effects of all other commands keep the registers. -/
theorem onlyWritesChangeRegisters : Obligations.OnlyWritesChangeRegisters := by
  intro i s t v V W h hV hW hwr hctrl hbend
  have hsame : voiceAt t v = voiceAt s v → SameRegisters W V := fun hvoice => by
    rw [Option.some.inj (hW.symm.trans (hvoice.trans hV))]
    exact .refl V
  rcases exec_cases h with ⟨rfl, -⟩ | ⟨u, a, U, -, -, rfl⟩ | ⟨u, U, -, -, hU, rfl⟩
  · exact hsame rfl
  · exact hsame (voiceAt_putDout s _ v)
  rcases eq_or_ne v u with rfl | hne
  · obtain rfl := Option.some.inj (hU.symm.trans hV)
    obtain rfl := Option.some.inj ((voiceAt_putVoice_same _ hU).symm.trans hW)
    exact voiceEffect_sameRegisters s.cfg U hwr hctrl hbend
  · exact hsame (voiceAt_putVoice_ne _ hne)

end Sys2Proof.Machine
end

section
/-! PROOFS. One envelope clock (R120 to R128): the values it computes, written as the spec does, and
the attenuation codes (R123, R135). -/

namespace Sys2Proof.Machine

/-! What each function of the clock gives, once. -/

theorem stageHolds_iff (st : EgStage) : stageHolds st = true ↔ st = .sustain ∨ st = .ended := by
  cases st <;> decide

theorem stageNext_of_holds {st : EgStage} (h : stageHolds st = true) : stageNext st = st := by
  rcases (stageHolds_iff st).mp h with rfl | rfl <;> rfl

theorem stageNext_code_of_not_holds {st : EgStage} (h : ¬ stageHolds st = true) :
    (stageNext st).code = st.code + 1 := by
  cases st with
  | sustain => exact absurd rfl h
  | ended => exact absurd rfl h
  | _ => rfl

theorem egTarget_eq_mul (c : Cfg) (p : OpRec) (st : EgStage) :
    egTarget c p st =
      min 255 (att8 (p.egLevel.get (stageSeg st)) + p.olatt.toNat) * 2 ^ (c.egW - 8) :=
  Nat.shiftLeft_eq _ _

theorem egInc_eq_ite (c : Cfg) (p : OpRec) (st : EgStage) :
    egInc c p st =
      if st = .sustain ∨ st = .ended then 0 else tbl c.egInc (p.egRate.get (stageSeg st)) := by
  simp only [egInc, stageHolds_iff]

theorem egStageAfter_of_reached {c : Cfg} {p : OpRec}
    (h : egMoved c p = egTarget c p p.egStage) : egStageAfter c p = stageNext p.egStage := if_pos h

theorem egStageAfter_of_short {c : Cfg} {p : OpRec}
    (h : egMoved c p ≠ egTarget c p p.egStage) : egStageAfter c p = p.egStage := if_neg h

/-- Sustain and End are kept by the clock, whether or not the target is reached (R120). -/
theorem egStageAfter_of_holds {c : Cfg} {p : OpRec} (h : stageHolds p.egStage = true) :
    egStageAfter c p = p.egStage := by
  rcases egStageAfter_cases c p with ⟨-, hnext⟩ | ⟨-, hstay⟩
  · exact hnext.trans (stageNext_of_holds h)
  · exact hstay

/-- The stage code after a clock, as R128 prints it. -/
theorem egStageAfter_code (c : Cfg) (p : OpRec) :
    (egStageAfter c p).code =
      if egMoved c p = egTarget c p p.egStage ∧ p.egStage ≠ .sustain ∧ p.egStage ≠ .ended then
        p.egStage.code + 1
      else p.egStage.code := by
  simp only [ne_eq, ← not_or, ← stageHolds_iff]
  by_cases hholds : stageHolds p.egStage = true
  · rw [if_neg fun h => h.2 hholds, egStageAfter_of_holds hholds]
  · rcases egStageAfter_cases c p with ⟨hreached, hnext⟩ | ⟨hshort, hstay⟩
    · rw [if_pos ⟨hreached, hholds⟩, hnext, stageNext_code_of_not_holds hholds]
    · rw [if_neg fun h => hshort h.1, hstay]

/-- Settles O28: the segment, the target and the increment are those of the stage, the move is
`moveToward`, and `egStageAfter_code` gives the stage. -/
theorem envelopeClockMovesToTarget : Obligations.EnvelopeClockMovesToTarget := by
  intro c p
  refine ⟨stageSeg p.egStage, egTarget c p p.egStage, egInc c p p.egStage, egMoved c p,
    egStageAfter c p, ?_, egTarget_eq_mul c p _, egInc_eq_ite c p _, rfl, egStageAfter_code c p, rfl⟩
  cases p.egStage <;> rfl

/-! Codes and targets. -/

/-- The two low bits of the code's top are below its shifted image, so the bitwise or is a sum. -/
theorem att8_eq_mod {a : Nat} (h : a < 64) : att8 a = (a * 4 + a / 16) % 256 := by
  have htop : a / 2 ^ 4 < 2 ^ 2 := by omega
  rw [att8, Nat.shiftRight_eq_div_pow, ← Nat.shiftLeft_add_eq_or_of_lt htop, Nat.shiftLeft_eq]
  rfl

theorem att8_eq_add {a : Nat} (h : a < 64) : att8 a = a * 4 + a / 16 := by
  rw [att8_eq_mod h]
  omega

theorem att8_mono {a b : Nat} (hab : a ≤ b) (hb : b < 64) : att8 a ≤ att8 b := by
  rw [att8_eq_add hb, att8_eq_add (hab.trans_lt hb)]
  omega

theorem egTarget_mono (c : Cfg) {p q : OpRec} {st : EgStage}
    (hq : q.egLevel.get (stageSeg st) < 64)
    (hlevel : p.egLevel.get (stageSeg st) ≤ q.egLevel.get (stageSeg st))
    (holatt : p.olatt.toNat ≤ q.olatt.toNat) : egTarget c p st ≤ egTarget c q st := by
  rw [egTarget_eq_mul, egTarget_eq_mul]
  exact Nat.mul_le_mul_right _
    (min_le_min_left _ (Nat.add_le_add (att8_mono hlevel hq) holatt))

/-- Settles O29: `att8` of a six-bit code is `4 a + a / 16`, and a target is a monotone function of
it and of `OLATT`. -/
theorem levelsAreMonotone : Obligations.LevelsAreMonotone := by
  refine ⟨fun a => att8_eq_mod, att8_eq_add (by decide), att8_eq_add (by decide), fun a ha => ?_,
    fun c p q st => egTarget_mono c⟩
  rw [att8_eq_add (show a + 1 < 64 by omega), att8_eq_add (show a < 64 by omega)]
  omega

end Sys2Proof.Machine
end

section
/-! PROOFS. Many samples of one envelope (R128): each one moves it by the increment until the target
is at most one increment away. -/

namespace Sys2Proof.Machine

/-! One move, by its distance from the target. -/

theorem moveToward_of_dist_le {cur tgt inc : Nat} (h : Nat.dist cur tgt ≤ inc) :
    moveToward cur tgt inc = tgt := by
  unfold Nat.dist at h
  exact moveToward_reaches (by omega) (by omega)

theorem dist_moveToward {cur tgt inc : Nat} (h : inc < Nat.dist cur tgt) :
    Nat.dist (moveToward cur tgt inc) tgt = Nat.dist cur tgt - inc := by
  unfold Nat.dist at h ⊢
  unfold moveToward
  split
  · omega
  · split <;> omega

/-- A clock closer to the target than its increment lands on it and advances. -/
theorem egClock_of_dist_le {c : Cfg} {p : OpRec}
    (h : Nat.dist p.egCur (egTarget c p p.egStage) ≤ egInc c p p.egStage) :
    egMoved c p = egTarget c p p.egStage ∧ egStageAfter c p = stageNext p.egStage :=
  have hmoved : egMoved c p = egTarget c p p.egStage := moveToward_of_dist_le h
  ⟨hmoved, egStageAfter_of_reached hmoved⟩

/-- A clock farther from the target than its increment shortens the distance by it and stays in its
stage. -/
theorem egClock_of_lt_dist {c : Cfg} {p : OpRec}
    (h : egInc c p p.egStage < Nat.dist p.egCur (egTarget c p p.egStage)) :
    Nat.dist (egMoved c p) (egTarget c p p.egStage) =
        Nat.dist p.egCur (egTarget c p p.egStage) - egInc c p p.egStage ∧
      egStageAfter c p = p.egStage := by
  have hdist := dist_moveToward h
  refine ⟨hdist, egStageAfter_of_short fun hreached => ?_⟩
  rw [← egMoved, hreached, Nat.dist_self] at hdist
  omega

/-! One `SAMPLE`, at one operator. -/

theorem egTarget_operatorClocked (c : Cfg) (V : Voice) (o : OpNum) (st : EgStage) :
    egTarget c (operatorClocked c V o) st = egTarget c (V.ops.get o) st := rfl

theorem egInc_operatorClocked (c : Cfg) (V : Voice) (o : OpNum) (st : EgStage) :
    egInc c (operatorClocked c V o) st = egInc c (V.ops.get o) st := rfl

theorem exec_sample_some {s : State} {v : VoiceNum} {V : Voice} (h : voiceAt s v = some V) :
    exec (.sample v) s = .next (putVoice s v (sampleVoice s.cfg V)) := onVoice_some _ h

/-- `n` samples of voice `v` leave the envelope of operator `o` at `cur` in the stage `st`. -/
def SamplesReach (s : State) (v : VoiceNum) (o : OpNum) (n cur : Nat) (st : EgStage) : Prop :=
  ∃ t W, runCmds (List.replicate n (.sample v)) s = .next t ∧ voiceAt t v = some W ∧
    (W.ops.get o).egCur = cur ∧ (W.ops.get o).egStage = st

theorem SamplesReach.zero {s : State} {v : VoiceNum} {V : Voice} (hV : voiceAt s v = some V)
    (o : OpNum) : SamplesReach s v o 0 (V.ops.get o).egCur (V.ops.get o).egStage :=
  ⟨s, V, rfl, hV, rfl, rfl⟩

theorem SamplesReach.succ {s : State} {v : VoiceNum} {V : Voice} {o : OpNum} {n cur : Nat}
    {st : EgStage} (hV : voiceAt s v = some V)
    (h : SamplesReach (putVoice s v (sampleVoice s.cfg V)) v o n cur st) :
    SamplesReach s v o (n + 1) cur st := by
  obtain ⟨t, W, hrun, hW, hend⟩ := h
  refine ⟨t, W, ?_, hW, hend⟩
  rw [List.replicate_succ, runCmds_cons_next _ (exec_sample_some hV), hrun]

/-- The induction on the samples before the last: each one leaves the same target, increment and
stage, and a distance shorter by the increment. -/
theorem samplesReach_target {s : State} {v : VoiceNum} {V : Voice} {o : OpNum} {p : OpRec} {k : Nat}
    (hV : voiceAt s v = some V) (hp : V.ops.get o = p)
    (hfar : k = 0 ∨
      k * egInc s.cfg p p.egStage < Nat.dist p.egCur (egTarget s.cfg p p.egStage))
    (hnear : Nat.dist p.egCur (egTarget s.cfg p p.egStage) ≤
      (k + 1) * egInc s.cfg p p.egStage) :
    SamplesReach s v o (k + 1) (egTarget s.cfg p p.egStage) (stageNext p.egStage) := by
  subst hp
  have hV' := voiceAt_putVoice_same (sampleVoice s.cfg V) hV
  induction k generalizing s V with
  | zero =>
    obtain ⟨hcur, hstage⟩ := egClock_of_dist_le (hnear.trans_eq (Nat.one_mul _))
    have hend := SamplesReach.zero hV' o
    rw [sampleVoice_ops_get, operatorClocked_egCur, operatorClocked_egStage, hcur, hstage] at hend
    exact hend.succ hV
  | succ k ih =>
    have hlt := hfar.resolve_left k.succ_ne_zero
    rw [Nat.succ_mul] at hlt hnear
    obtain ⟨hdist, hstage⟩ := egClock_of_lt_dist (Nat.lt_of_le_of_lt (Nat.le_add_left _ _) hlt)
    have hrest := ih hV'
    simp only [putVoice_cfg, sampleVoice_ops_get, operatorClocked_egCur, operatorClocked_egStage,
      egTarget_operatorClocked, egInc_operatorClocked, hstage, hdist] at hrest
    exact (hrest (.inr (by omega)) (by omega) (voiceAt_putVoice_same _ hV')).succ hV

/-- Settles O31: `samplesReach_target`, whose distance is `Nat.dist`. -/
theorem envelopeReachesItsTarget : Obligations.EnvelopeReachesItsTarget :=
  fun _ _ _ _ _ hV => samplesReach_target hV rfl

end Sys2Proof.Machine
end

section
/-! PROOFS. What any command does to an envelope (R120, R126 to R128, R132), said once, and from it
that stages move forward and that Sustain holds (R134). -/

namespace Sys2Proof.Machine

/-! The voice of a state after a command. -/

/-- The voice that a command names holds what the command makes of it; a read makes nothing of it. -/
theorem exec_voiceAt_named {i : Instr} {s t : State} {v : VoiceNum} {V : Voice}
    (h : exec i s = .next t) (hi : cmdVoice i = some v) (hV : voiceAt s v = some V) :
    voiceAt t v = some (voiceEffect s.cfg i V) := by
  rcases exec_cases h with ⟨-, habsent⟩ | ⟨u, a, U, rfl, -, rfl⟩ | ⟨u, U, hu, -, hU, rfl⟩
  · cases (habsent v hi).symm.trans hV
  · exact hV
  · obtain rfl := Option.some.inj (hu.symm.trans hi)
    obtain rfl := Option.some.inj (hU.symm.trans hV)
    exact voiceAt_putVoice_same _ hV

theorem exec_voiceAt_unnamed {i : Instr} {s t : State} {v : VoiceNum} {V : Voice}
    (h : exec i s = .next t) (hi : cmdVoice i ≠ some v) (hV : voiceAt s v = some V) :
    voiceAt t v = some V := by
  obtain ⟨-, hframe⟩ := exec_frame h
  exact (hframe v hi).trans hV

theorem exec_keeps_voice {i : Instr} {s t : State} {v : VoiceNum} {V : Voice}
    (h : exec i s = .next t) (hV : voiceAt s v = some V) : ∃ W, voiceAt t v = some W := by
  by_cases hi : cmdVoice i = some v
  · exact ⟨_, exec_voiceAt_named h hi hV⟩
  · exact ⟨V, exec_voiceAt_unnamed h hi hV⟩

/-! The envelope of an operator under each kind of command. -/

/-- The runtime state of an envelope: its stage and its attenuation. -/
def OpRec.envelope (p : OpRec) : EgStage × Nat := (p.egStage, p.egCur)

theorem OpRec.envelope_eq_iff {p : OpRec} {st : EgStage} {cur : Nat} :
    p.envelope = (st, cur) ↔ p.egStage = st ∧ p.egCur = cur := Prod.mk_inj

theorem keyOnVoice_envelope (V : Voice) (o : OpNum) :
    ((keyOnVoice V).ops.get o).envelope = (.attack, (V.ops.get o).egCur) := by
  simp only [keyOnVoice, lfoKeyOn, PerOp.get_map, OpRec.envelope]

theorem keyOffVoice_envelope (V : Voice) (o : OpNum) :
    ((keyOffVoice V).ops.get o).envelope =
      (stageKeyOff (V.ops.get o).egStage, (V.ops.get o).egCur) := by
  simp only [keyOffVoice, PerOp.get_map, OpRec.envelope]

theorem sampleVoice_envelope (c : Cfg) (V : Voice) (o : OpNum) :
    ((sampleVoice c V).ops.get o).envelope =
      (egStageAfter c (V.ops.get o), egMoved c (V.ops.get o)) := by
  rw [sampleVoice_ops_get, OpRec.envelope, operatorClocked_egStage, operatorClocked_egCur]

theorem tickVoice_ops (c : Cfg) (V : Voice) : (tickVoice c V).ops = V.ops := by rw [tickVoice_frame]

theorem setCtrlVoice_ops (c : Cfg) (n : Addr) (x : BitVec 7) (V : Voice) :
    (setCtrlVoice c n x V).ops = V.ops := by
  unfold setCtrlVoice
  split <;> rfl

theorem opRegWrite_envelope (c : Cfg) (p : OpRec) (r : OpReg) (d : Data) :
    (opRegWrite c p r d).envelope = p.envelope := by
  obtain ⟨-, hcur, hstage⟩ := opRegWrite_runtime c p r d
  rw [OpRec.envelope, hcur, hstage, OpRec.envelope]

theorem regWrite_envelope (c : Cfg) (V : Voice) (a : Addr) (d : Data) (o : OpNum) :
    ((regWrite c V a d).ops.get o).envelope = (V.ops.get o).envelope := by
  rcases regWrite_cases c V a d with ⟨o', r, -, hw⟩ | ⟨r, -, hw⟩ | ⟨-, hw⟩
  · rw [hw]
    rcases eq_or_ne o o' with rfl | hne
    · rw [PerOp.get_set_same, opRegWrite_envelope]
    · rw [PerOp.get_set_ne _ _ hne]
  · rw [hw, voiceRegWrite_runtime]
  · rw [hw]

/-- The four things a command can do to an envelope: the two gates, the clock, or nothing. -/
inductive EnvelopeMove (c : Cfg) (i : Instr) (v : VoiceNum) (p q : OpRec) : Prop where
  | keyOn (hi : i = .keyOn v) (h : q.envelope = (.attack, p.egCur))
  | keyOff (hi : i = .keyOff v) (h : q.envelope = (stageKeyOff p.egStage, p.egCur))
  | clock (hi : i = .sample v) (h : q.envelope = (egStageAfter c p, egMoved c p))
  | stay (hi : i ≠ .keyOn v) (h : q.envelope = p.envelope)

theorem voiceEffect_envelopeMove {c : Cfg} {i : Instr} {v : VoiceNum} (V : Voice) (o : OpNum)
    (hi : cmdVoice i = some v) :
    EnvelopeMove c i v (V.ops.get o) ((voiceEffect c i V).ops.get o) := by
  cases i with
  | keyOn u => exact .keyOn (congrArg _ (Option.some.inj hi)) (keyOnVoice_envelope V o)
  | keyOff u => exact .keyOff (congrArg _ (Option.some.inj hi)) (keyOffVoice_envelope V o)
  | sample u => exact .clock (congrArg _ (Option.some.inj hi)) (sampleVoice_envelope c V o)
  | wrReg u a d => exact .stay nofun (regWrite_envelope c V a d o)
  | tick u => exact .stay nofun (by rw [voiceEffect, tickVoice_ops])
  | setCtrl u n x => exact .stay nofun (by rw [voiceEffect, setCtrlVoice_ops])
  | _ => exact .stay nofun rfl

theorem exec_envelopeMove {i : Instr} {s t : State} {v : VoiceNum} {V W : Voice} (o : OpNum)
    (h : exec i s = .next t) (hV : voiceAt s v = some V) (hW : voiceAt t v = some W) :
    EnvelopeMove s.cfg i v (V.ops.get o) (W.ops.get o) := by
  by_cases hi : cmdVoice i = some v
  · obtain rfl := Option.some.inj ((exec_voiceAt_named h hi hV).symm.trans hW)
    exact voiceEffect_envelopeMove V o hi
  · obtain rfl := Option.some.inj ((exec_voiceAt_unnamed h hi hV).symm.trans hW)
    exact .stay (fun he => hi (he ▸ rfl)) rfl

/-! Stages move forward (R132). -/

theorem egStageAfter_code_bounds (c : Cfg) (p : OpRec) :
    p.egStage.code ≤ (egStageAfter c p).code ∧ (egStageAfter c p).code ≤ p.egStage.code + 1 := by
  rw [egStageAfter_code]
  split <;> omega

/-- Settles O32: the stage after each of the four moves of an envelope. -/
theorem stagesMoveForwardOnly : Obligations.StagesMoveForwardOnly := by
  intro i s t v V W o h hV hW
  have hle := (V.ops.get o).egStage.code_le
  cases exec_envelopeMove o h hV hW with
  | keyOn hi hmove =>
    obtain ⟨hstage, -⟩ := OpRec.envelope_eq_iff.mp hmove
    subst hi
    rw [hstage]
    exact ⟨fun hne => absurd rfl hne, fun _ => rfl, fun _ => Nat.zero_le _, fun _ _ => rfl, nofun⟩
  | keyOff hi hmove =>
    obtain ⟨hstage, -⟩ := OpRec.envelope_eq_iff.mp hmove
    subst hi
    rw [hstage, stageKeyOff_code]
    exact ⟨fun _ => le_max_left _ _, nofun, fun hne => absurd rfl hne, by omega, nofun⟩
  | clock hi hmove =>
    obtain ⟨hstage, -⟩ := OpRec.envelope_eq_iff.mp hmove
    obtain ⟨hlow, hhigh⟩ := egStageAfter_code_bounds s.cfg (V.ops.get o)
    have hend := (egStageAfter s.cfg (V.ops.get o)).code_le
    subst hi
    rw [hstage]
    exact ⟨fun _ => hlow, nofun, fun _ => hhigh, by omega, nofun⟩
  | stay hi hmove =>
    obtain ⟨hstage, -⟩ := OpRec.envelope_eq_iff.mp hmove
    rw [hstage]
    exact ⟨fun _ => le_rfl, fun he => absurd he hi, fun _ => Nat.le_succ _,
      fun h5 hne => absurd h5 hne, fun _ => rfl⟩

/-! Sustain (R134). -/

/-- The clock that leaves Decay2 has found its target. -/
theorem egMoved_of_decay2_ends {c : Cfg} {p : OpRec} (h : p.egStage = .decay2)
    (h' : egStageAfter c p = .sustain) : egMoved c p = egTarget c p .decay2 := by
  rcases egStageAfter_cases c p with ⟨hreached, -⟩ | ⟨-, hstay⟩
  · rwa [h] at hreached
  · cases h.symm.trans (hstay.symm.trans h')

theorem clock_keeps_sustain (c : Cfg) {p : OpRec} (h : p.egStage = .sustain) :
    (egStageAfter c p, egMoved c p) = p.envelope := by
  have hholds : stageHolds p.egStage = true := (stageHolds_iff _).mpr (.inl h)
  rw [egStageAfter_of_holds hholds, egMoved_of_holds hholds, OpRec.envelope]

theorem exec_keeps_sustain {i : Instr} {s t : State} {v : VoiceNum} {V W : Voice} {o : OpNum}
    (h : exec i s = .next t) (hV : voiceAt s v = some V) (hW : voiceAt t v = some W)
    (hgates : i ≠ .keyOn v ∧ i ≠ .keyOff v) (hsus : (V.ops.get o).egStage = .sustain) :
    (W.ops.get o).envelope = (V.ops.get o).envelope := by
  cases exec_envelopeMove o h hV hW with
  | keyOn hi _ => exact absurd hi hgates.1
  | keyOff hi _ => exact absurd hi hgates.2
  | clock _ hmove => exact hmove.trans (clock_keeps_sustain s.cfg hsus)
  | stay _ hmove => exact hmove

theorem runCmds_keeps_sustain {l : List Instr} {s : State} {v : VoiceNum} {V : Voice} {o : OpNum}
    (hV : voiceAt s v = some V) (hsus : (V.ops.get o).egStage = .sustain)
    (hgates : ∀ i ∈ l, i ≠ .keyOn v ∧ i ≠ .keyOff v) :
    ∃ t W, runCmds l s = .next t ∧ voiceAt t v = some W ∧ t.cfg = s.cfg ∧
      (W.ops.get o).envelope = (V.ops.get o).envelope := by
  induction l generalizing s V with
  | nil => exact ⟨s, V, rfl, hV, rfl, rfl⟩
  | cons i l ih =>
    obtain ⟨hi, hl⟩ := List.forall_mem_cons.mp hgates
    obtain ⟨t, ht⟩ := exec_total i s
    obtain ⟨W, hW⟩ := exec_keeps_voice ht hV
    have hsame := exec_keeps_sustain ht hV hW hi hsus
    obtain ⟨hstage, -⟩ := OpRec.envelope_eq_iff.mp hsame
    obtain ⟨t', W', hrun, hW', hcfg, hsame'⟩ := ih hW (hstage.trans hsus) hl
    obtain ⟨hcfg', -⟩ := exec_frame ht
    exact ⟨t', W', (runCmds_cons_next l ht).trans hrun, hW', hcfg.trans hcfg', hsame'.trans hsame⟩

/-- Settles O30: Decay2 is left on its target, and by induction on the commands Sustain keeps the
envelope, of which the visible attenuation is a function. -/
theorem sustainHolds : Obligations.SustainHolds := by
  refine ⟨fun c p => egMoved_of_decay2_ends, fun l s v V o hV hsus hgates => ?_⟩
  obtain ⟨t, W, hrun, hW, hcfg, hsame⟩ := runCmds_keeps_sustain hV hsus hgates
  obtain ⟨hstage, hcur⟩ := OpRec.envelope_eq_iff.mp hsame
  exact ⟨t, W, hrun, hW, hstage.trans hsus, hcur, by rw [egAtt, egAtt, hcfg, hcur]⟩

end Sys2Proof.Machine
end

section
/-! PROOFS. `RS` is stored and read, and has no other effect (R133): erasing the `RS` registers
before a command or after it makes no difference. -/

namespace Sys2Proof

theorem PerOp.map_set {α β : Type} (f : α → β) (p : PerOp α) (o : OpNum) (x : α) :
    (p.set o x).map f = (p.map f).set o (f x) := by cases o <;> rfl

theorem PerOp.map_map_self {α : Type} {f : α → α} (hf : ∀ x, f (f x) = f x) (p : PerOp α) :
    (p.map f).map f = p.map f := by simp only [PerOp.map, hf]

namespace Machine

/-! The erasure of one operator record and of one voice record. -/

/-- The record with its `RS` register cleared, as `eraseRs` clears it. -/
def OpRec.eraseRs (p : OpRec) : OpRec := { p with rs := 0 }

/-- The voice with its six `RS` registers cleared; `eraseRs_voices` ties it to `eraseRs`. -/
def Voice.eraseRs (V : Voice) : Voice := { V with ops := V.ops.map OpRec.eraseRs }

theorem OpRec.eraseRs_eraseRs (p : OpRec) : p.eraseRs.eraseRs = p.eraseRs := rfl

@[simp] theorem Voice.eraseRs_ops_get (V : Voice) (o : OpNum) :
    V.eraseRs.ops.get o = (V.ops.get o).eraseRs := PerOp.get_map _ _ o

@[simp] theorem Voice.eraseRs_eraseRs (V : Voice) : V.eraseRs.eraseRs = V.eraseRs := rfl

theorem Voice.eraseRs_of_eq_eraseRs {V W : Voice} (h : W = V.eraseRs) : W.eraseRs = V.eraseRs := by
  rw [h, Voice.eraseRs_eraseRs]

theorem eraseRs_voices (s : State) : (eraseRs s).voices = s.voices.map Voice.eraseRs := rfl

@[simp] theorem eraseRs_cfg (s : State) : (eraseRs s).cfg = s.cfg := rfl

@[simp] theorem eraseRs_dout (s : State) : (eraseRs s).dout = s.dout := rfl

theorem eraseRs_putDout (s : State) (x : Word) : eraseRs (putDout s x) = putDout (eraseRs s) x := rfl

theorem eraseRs_putVoice (s : State) (v : VoiceNum) (V : Voice) :
    eraseRs (putVoice s v V) = putVoice (eraseRs s) v V.eraseRs :=
  congrArg (fun l => { eraseRs s with voices := l }) List.map_set

@[simp] theorem eraseRs_eraseRs (s : State) : eraseRs (eraseRs s) = eraseRs s := by
  have hvoices : (s.voices.map Voice.eraseRs).map Voice.eraseRs = s.voices.map Voice.eraseRs := by
    rw [List.map_map]
    exact List.map_congr_left fun V _ => V.eraseRs_eraseRs
  exact congrArg (fun l => { eraseRs s with voices := l }) hvoices

theorem voiceAt_eraseRs (s : State) (v : VoiceNum) :
    voiceAt (eraseRs s) v = (voiceAt s v).map Voice.eraseRs := by
  unfold voiceAt
  rw [eraseRs_voices, eraseRs_cfg, List.getElem?_map]
  split <;> rfl

/-! The commands on a voice. `SAMPLE`: no step of an operator evaluation reads `RS`. -/

theorem operatorPitch_eraseRs (c : Cfg) (V : Voice) (o : OpNum) :
    operatorPitch c V.eraseRs o = operatorPitch c V o := by
  simp only [operatorPitch, Voice.eraseRs_ops_get]
  rfl

theorem phaseAfter_eraseRs (c : Cfg) (V : Voice) (o : OpNum) :
    phaseAfter c V.eraseRs o = phaseAfter c V o := by
  simp only [phaseAfter, pinc, operatorPitch_eraseRs, Voice.eraseRs_ops_get]
  rfl

theorem egClock_eraseRs (c : Cfg) (p : OpRec) : egClock c p.eraseRs = (egClock c p).eraseRs := rfl

theorem operatorClocked_eraseRs (c : Cfg) (V : Voice) (o : OpNum) :
    operatorClocked c V.eraseRs o = (operatorClocked c V o).eraseRs := by
  simp only [operatorClocked, phaseAfter_eraseRs, Voice.eraseRs_ops_get, egClock_eraseRs]
  rfl

theorem operatorOut_eraseRs (c : Cfg) (V : Voice) (o : OpNum) :
    operatorOut c V.eraseRs o = operatorOut c V o := by
  simp only [operatorOut, amAtt, phaseAfter_eraseRs, Voice.eraseRs_ops_get, egClock_eraseRs]
  rfl

theorem route_eraseRs (c : Cfg) (e : AlgEntry) (out : Int) (V : Voice) :
    route c e out V.eraseRs = (route c e out V).eraseRs := by
  simp only [route, routeMod, routeMem_eq, routeSum_eq, routeFb_eq]
  rfl

theorem clockedVoice_eraseRs (c : Cfg) (V : Voice) (o : OpNum) :
    clockedVoice c V.eraseRs o = (clockedVoice c V o).eraseRs := by
  rw [clockedVoice, operatorClocked_eraseRs]
  exact congrArg (fun ops => { V with ops := ops }) (PerOp.map_set _ _ _ _).symm

theorem opEval_eraseRs (c : Cfg) (V : Voice) (o : OpNum) :
    opEval c V.eraseRs o = (opEval c V o).eraseRs := by
  rw [opEval_eq_route, operatorOut_eraseRs, clockedVoice_eraseRs, route_eraseRs, opEval_eq_route]
  rfl

theorem foldl_seqEval_eraseRs (c : Cfg) (l : List OpNum) (V : Voice) :
    l.foldl (seqEval c) V.eraseRs = (l.foldl (seqEval c) V).eraseRs := by
  induction l generalizing V with
  | nil => rfl
  | cons o l ih =>
    have hturn : seqEval c V.eraseRs o = (seqEval c V o).eraseRs :=
      opEval_eraseRs c { V with seq := o.num } o
    rw [List.foldl_cons, List.foldl_cons, hturn, ih]

theorem sampleVoice_eraseRs (c : Cfg) (V : Voice) :
    sampleVoice c V.eraseRs = (sampleVoice c V).eraseRs :=
  congrArg (fun W : Voice => { W with out := W.sum, seq := 0 })
    (foldl_seqEval_eraseRs c evalOrder { V with sum := 0 })

/-! The other commands: a tick reads no operator record, and a write reads only what it replaces. -/

theorem lfoGate_eraseRs (V : Voice) : lfoGate V.eraseRs = (lfoGate V).eraseRs := by
  have hstage : V.eraseRs.lfoStage = V.lfoStage := rfl
  unfold lfoGate
  rw [hstage]
  cases V.lfoStage with
  | delay =>
    simp only []
    rw [apply_ite Voice.eraseRs]
    rfl
  | fade =>
    simp only []
    rw [apply_ite Voice.eraseRs]
    rfl
  | steady => rfl

theorem lfoTick_eraseRs (c : Cfg) (V : Voice) : lfoTick c V.eraseRs = (lfoTick c V).eraseRs := by
  rw [lfoTick, lfoGate_eraseRs]
  rfl

theorem pegTick_eraseRs (V : Voice) : pegTick V.eraseRs = (pegTick V).eraseRs := by
  simp only [pegTick]
  rw [apply_ite Voice.eraseRs]
  rfl

theorem tickVoice_eraseRs (c : Cfg) (V : Voice) : tickVoice c V.eraseRs = (tickVoice c V).eraseRs := by
  rw [tickVoice, lfoTick_eraseRs, pegTick_eraseRs, tickVoice]

theorem setCtrlVoice_eraseRs (c : Cfg) (n : Addr) (x : BitVec 7) (V : Voice) :
    setCtrlVoice c n x V.eraseRs = (setCtrlVoice c n x V).eraseRs := by
  unfold setCtrlVoice
  split <;> rfl

theorem opRegWrite_eraseRs (c : Cfg) (p : OpRec) (r : OpReg) (d : Data) :
    (opRegWrite c p.eraseRs r d).eraseRs = (opRegWrite c p r d).eraseRs := by
  cases r <;> rfl

theorem voiceRegWrite_eraseRs (V : Voice) (r : VoiceReg) (d : Data) :
    voiceRegWrite V.eraseRs r d = (voiceRegWrite V r d).eraseRs := by
  cases r with
  | alg =>
    simp only [voiceRegWrite]
    split <;> rfl
  | _ => rfl

/-- A write to an `RS` register is erased again; every other write commutes with the erasure. -/
theorem regWrite_eraseRs (c : Cfg) (V : Voice) (a : Addr) (d : Data) :
    (regWrite c V.eraseRs a d).eraseRs = (regWrite c V a d).eraseRs := by
  unfold regWrite
  split
  · rw [Voice.eraseRs_ops_get]
    simp only [Voice.eraseRs, PerOp.map_set, PerOp.map_map_self OpRec.eraseRs_eraseRs,
      opRegWrite_eraseRs]
  · rw [voiceRegWrite_eraseRs, Voice.eraseRs_eraseRs]
  · exact V.eraseRs_eraseRs
  · exact V.eraseRs_eraseRs

theorem voiceEffect_eraseRs (c : Cfg) (i : Instr) (V : Voice) :
    (voiceEffect c i V.eraseRs).eraseRs = (voiceEffect c i V).eraseRs := by
  cases i with
  | wrReg v a d => exact regWrite_eraseRs c V a d
  | sample v => exact Voice.eraseRs_of_eq_eraseRs (sampleVoice_eraseRs c V)
  | tick v => exact Voice.eraseRs_of_eq_eraseRs (tickVoice_eraseRs c V)
  | setCtrl v n x => exact Voice.eraseRs_of_eq_eraseRs (setCtrlVoice_eraseRs c n x V)
  | _ => rfl

/-! The read of a register other than `RS`. -/

theorem opOfBlock_eq_some {n : Nat} {o : OpNum} (h : opOfBlock n = some o) : o.num - 1 = n := by
  unfold opOfBlock at h
  split at h <;> cases h <;> rfl

theorem opRegAt_eq_op {o o' : OpNum} {k : Nat} {r : OpReg} (h : opRegAt o' k = .op o r) :
    o' = o ∧ opMap.getD k none = some r := by
  unfold opRegAt at h
  split at h
  · cases h
    exact ⟨rfl, ‹_›⟩
  · cases h

/-- An address that names an operator register is that register's address. -/
theorem eq_opRegAddr_of_regAt {a : Addr} {o : OpNum} {r : OpReg} (h : regAt a = .op o r) :
    a = opRegAddr o r := by
  unfold regAt at h
  split at h
  · next o' hblock =>
    obtain ⟨rfl, hmap⟩ := opRegAt_eq_op h
    have hnum := opOfBlock_eq_some hblock
    have hoffset := opRegOffset_of_opMap (Nat.mod_lt a.toNat (by decide)) hmap
    refine BitVec.eq_of_toNat_eq ?_
    rw [opRegAddr_toNat]
    omega
  · split at h <;> split at h <;> cases h

theorem isRsAddr_opRegAddr_rs (o : OpNum) : isRsAddr (opRegAddr o .rs) = true := by
  cases o <;> decide

theorem opRegRead_eraseRs (p : OpRec) {r : OpReg} (h : r ≠ .rs) :
    opRegRead p.eraseRs r = opRegRead p r := by
  cases r with
  | rs => exact absurd rfl h
  | _ => rfl

theorem voiceRegRead_eraseRs (V : Voice) (r : VoiceReg) :
    voiceRegRead V.eraseRs r = voiceRegRead V r := by cases r <;> rfl

theorem statusRead_eraseRs (c : Cfg) (V : Voice) (r : StatusReg) :
    statusRead c V.eraseRs r = statusRead c V r := by
  cases r with
  | egAtt o =>
    simp only [statusRead, Voice.eraseRs_ops_get]
    rfl
  | egStage o =>
    simp only [statusRead, Voice.eraseRs_ops_get]
    rfl
  | _ => rfl

theorem regRead_eraseRs (c : Cfg) (V : Voice) {a : Addr} (h : isRsAddr a = false) :
    regRead c V.eraseRs a = regRead c V a := by
  unfold regRead
  split
  · next o r hreg =>
    have hne : r ≠ .rs := by
      rintro rfl
      rw [eq_opRegAddr_of_regAt hreg, isRsAddr_opRegAddr_rs] at h
      cases h
    rw [Voice.eraseRs_ops_get, opRegRead_eraseRs _ hne]
  · exact voiceRegRead_eraseRs V _
  · exact statusRead_eraseRs c V _
  · rfl

/-! Any command. -/

theorem voiceAt_eraseRs_some {s : State} {v : VoiceNum} {V : Voice} (h : voiceAt s v = some V) :
    voiceAt (eraseRs s) v = some V.eraseRs := by rw [voiceAt_eraseRs, h, Option.map_some]

theorem voiceAt_eraseRs_none {s : State} {v : VoiceNum} (h : voiceAt s v = none) :
    voiceAt (eraseRs s) v = none := by rw [voiceAt_eraseRs, h, Option.map_none]

/-- Run from the erased state, a command that reads no `RS` register differs in `RS` at most. -/
theorem exec_eraseRs {i : Instr} {s t : State} (h : exec i s = .next t)
    (hread : ∀ v a, i = .rdReg v a → isRsAddr a = false) :
    ∃ t₀, exec i (eraseRs s) = .next t₀ ∧ eraseRs t₀ = eraseRs t ∧ t₀.dout = t.dout := by
  rcases exec_cases h with ⟨rfl, habsent⟩ | ⟨v, a, V, rfl, hV, rfl⟩ | ⟨v, V, hi, hnr, hV, rfl⟩
  · refine ⟨eraseRs t, ?_, eraseRs_eraseRs t, rfl⟩
    rw [exec_eq_cmdUpdate, cmdUpdate_of_absent fun v hv => voiceAt_eraseRs_none (habsent v hv)]
    rfl
  · refine ⟨_, exec_rdReg_some a (voiceAt_eraseRs_some hV), ?_, ?_⟩
    · rw [eraseRs_putDout, eraseRs_putDout, eraseRs_eraseRs, eraseRs_cfg,
        regRead_eraseRs _ _ (hread v a rfl)]
    · rw [putDout_dout, putDout_dout, eraseRs_cfg, regRead_eraseRs _ _ (hread v a rfl)]
  · refine ⟨_, exec_on_voice hi hnr (voiceAt_eraseRs_some hV), ?_, rfl⟩
    rw [eraseRs_putVoice, eraseRs_putVoice, eraseRs_eraseRs, eraseRs_cfg, voiceEffect_eraseRs]

/-- Settles O33: both states run as the erased state does, and that is the same state. -/
theorem rateScalingHasNoEffect : Obligations.RateScalingHasNoEffect := by
  intro i s s' hsame hread
  obtain ⟨t, ht⟩ := exec_total i s
  obtain ⟨t', ht'⟩ := exec_total i s'
  obtain ⟨t₀, ht₀, herase, hdout⟩ := exec_eraseRs ht hread
  obtain ⟨t₁, ht₁, herase', hdout'⟩ := exec_eraseRs ht' hread
  obtain rfl : t₁ = t₀ := exec_next_unique ht₀ (hsame ▸ ht₁)
  exact ⟨t, t', ht, ht', herase.symm.trans herase', hdout.symm.trans hdout'⟩

end Machine

end Sys2Proof
end

section
/-! PROOFS. One operator evaluation (R142 to R153): each function of the signal path as the spec
prints it for an accepted configuration, then the voice an evaluation leaves, field by field. -/

namespace Sys2Proof.Machine

/-! Phase index, log-sine, attenuation sum and exponential (R145 to R149). -/

theorem asr_eq_div (x : Int) (n : Nat) : asr x n = x / 2 ^ n := by
  rw [asr, Nat.cast_pow, Nat.cast_ofNat]

theorem phaseIndex_eq {c : Cfg} (hphi : c.phiW = 12) (phase : Nat) (mod : Int) :
    (phaseIndex c phase mod : Int) = ((phase / 2 ^ (c.phaseW - 12) : Nat) + mod) % 4096 := by
  rw [phaseIndex, hphi, wrapInt, Nat.shiftRight_eq_div_pow]
  exact Int.toNat_of_nonneg (Int.emod_nonneg _ (by decide))

theorem logSin_eq {c : Cfg} (hphi : c.phiW = 12) (h : Nat) :
    logSin c h = if h < 1024 then tbl c.lsq h else tbl c.lsq (2047 - h) := by
  simp only [logSin, hphi, Nat.reduceSub, Nat.reducePow]

theorem logSin_reflect {c : Cfg} (hphi : c.phiW = 12) {h : Nat} (hh : h < 2048) :
    logSin c (2047 - h) = logSin c h := by
  rw [logSin_eq hphi, logSin_eq hphi]
  rcases Nat.lt_or_ge h 1024 with hlt | hge
  · rw [if_pos hlt, if_neg (by omega), Nat.sub_sub_self (by omega)]
  · rw [if_neg (Nat.not_lt.mpr hge), if_pos (by omega)]

theorem attSum_eq (c : Cfg) (ls att am : Nat) (com : Fin 8) :
    attSum c ls att am com =
      min (2 ^ c.logW - 1) (ls + att * 4 + am * 64 + tbl c.compAtt com.val) := by
  rw [attSum, sat, min_comm, Nat.shiftLeft_eq, Nat.shiftLeft_eq]

theorem expLin_eq (c : Cfg) (la : Nat) :
    expLin c la = tbl c.expm (la % 1024) / 2 ^ (la / 1024) := by
  rw [expLin, Nat.shiftRight_eq_div_pow]

/-- The magnitude of the output at a phase index (steps 3 to 5 of R142). -/
def toneMag (c : Cfg) (phi att am : Nat) (com : Fin 8) : Nat :=
  expLin c (attSum c (logSin c (phi % 2048)) att am com)

theorem toneOut_eq {c : Cfg} (hphi : c.phiW = 12) (phi att am : Nat) (com : Fin 8) :
    toneOut c phi att am com =
      if phi < 2048 then (toneMag c phi att am com : Int)
      else -(toneMag c phi att am com : Int) := by
  simp only [toneOut, hphi, Nat.reduceSub, Nat.reducePow]
  rcases Nat.lt_or_ge phi 2048 with hlt | hge
  · rw [if_pos hlt, if_neg (Nat.not_le.mpr hlt), toneMag]
  · rw [if_neg (Nat.not_lt.mpr hge), if_pos hge, toneMag]

/-- Settles O25: the magnitude sees the phase index through `logSin` of its half cycle, which is
reflected, and the half cycle itself is the sign. -/
theorem waveIsReflected : Obligations.WaveIsReflected := by
  intro c h att am com hc hh
  have hphi := Cfg.wf_phiW hc
  have hmag : toneMag c (2047 - h) att am com = toneMag c h att am com := by
    rw [toneMag, Nat.mod_eq_of_lt (by omega), logSin_reflect hphi hh, toneMag,
      Nat.mod_eq_of_lt hh]
  have hmag' : toneMag c (2048 + h) att am com = toneMag c h att am com := by
    rw [toneMag, Nat.add_mod_left, toneMag]
  refine ⟨(logSin_reflect hphi hh).symm, ?_, ?_⟩
  · rw [toneOut_eq hphi, toneOut_eq hphi, hmag, if_pos (by omega), if_pos hh]
  · rw [toneOut_eq hphi, toneOut_eq hphi, hmag', if_neg (by omega), if_pos hh]

/-! The exponential falls (R148). -/

theorem expm_anti {c : Cfg} (hc : c.wf = true) {i j : Nat} (hij : i ≤ j) (hj : j < 1024) :
    tbl c.expm j ≤ tbl c.expm i := by
  obtain ⟨-, -, -, -, -, -, hexpm, -⟩ := Cfg.wf_checks hc
  obtain ⟨-, hadj⟩ := (Cfg.expmOk_iff c).mp hexpm
  exact tbl_anti_of_adjacent hadj i j hij hj

/-- Inside an octave the mantissa table falls; from one octave to a later one its first entry,
halved, is still not above its last. -/
theorem expLin_anti {c : Cfg} (hc : c.wf = true) (hspan : tbl c.expm 0 / 2 ≤ tbl c.expm 1023)
    {a b : Nat} (hab : a ≤ b) : expLin c b ≤ expLin c a := by
  have hlast : a % 1024 ≤ 1023 := by omega
  rcases Nat.eq_or_lt_of_le (Nat.div_le_div_right (c := 1024) hab) with heq | hlt
  · rw [expLin_eq, expLin_eq, heq]
    exact Nat.div_le_div_right (expm_anti hc (by omega) (by omega))
  · calc expLin c b
        = tbl c.expm (b % 1024) / 2 ^ (b / 1024) := expLin_eq c b
      _ ≤ tbl c.expm 0 / 2 ^ (a / 1024 + 1) :=
          Nat.div_le_div (expm_anti hc (Nat.zero_le _) (by omega))
            (Nat.pow_le_pow_right (by decide) hlt) (Nat.two_pow_pos _).ne'
      _ = tbl c.expm 0 / 2 / 2 ^ (a / 1024) := by rw [Nat.div_div_eq_div_mul, pow_succ']
      _ ≤ tbl c.expm (a % 1024) / 2 ^ (a / 1024) :=
          Nat.div_le_div_right (hspan.trans (expm_anti hc hlast (by decide)))
      _ = expLin c a := (expLin_eq c a).symm

/-- Fourteen octaves down nothing is left of a mantissa of fourteen bits. -/
theorem expLin_eq_zero {c : Cfg} (hc : c.wf = true) {la : Nat} (h : 14336 ≤ la) :
    expLin c la = 0 := by
  have hpow : 2 ^ 14 ≤ 2 ^ (la / 1024) := Nat.pow_le_pow_right (by decide) (by omega)
  have hmant := Cfg.wf_expm_le hc (la % 1024)
  rw [expLin_eq]
  exact Nat.div_eq_of_lt (by omega)

theorem natAbs_toneOut_le {c : Cfg} (hc : c.wf = true) (phi att am : Nat) (com : Fin 8) :
    (toneOut c phi att am com).natAbs ≤ 16383 := by
  have hmag : toneMag c phi att am com ≤ 16383 := expLin_le hc _
  rw [toneOut_eq (Cfg.wf_phiW hc)]
  split <;> omega

/-- Settles O26: `expLin_anti`, `expLin_eq_zero`, and the magnitude of an output is a value of
`EXP`, at most the largest mantissa. -/
theorem exponentialFallsToZero : Obligations.ExponentialFallsToZero := by
  refine ⟨fun c a b hc hspan hab => expLin_anti hc hspan hab, fun c la hc => expLin_eq_zero hc,
    fun c V o hc => ?_⟩
  have hout : (operatorOut c V o).natAbs ≤ 16383 := natAbs_toneOut_le hc _ _ _ _
  omega

/-! The voice after an evaluation (R142, R150 to R153). -/

/-- The row of `ALG_ROM` that an algorithm selects (R141). -/
def algRow (c : Cfg) (a : BitVec 5) : PerOp AlgEntry :=
  c.algRom.getD a.toNat (PerOp.const silentEntry)

theorem romEntry_eq_algRow (c : Cfg) (a : BitVec 5) (o : OpNum) :
    romEntry c a o = (algRow c a).get o := rfl

/-- An accepted configuration has a row for every algorithm. -/
theorem algRom_getElem? {c : Cfg} (hc : c.wf = true) (a : BitVec 5) :
    c.algRom[a.toNat]? = some (algRow c a) := by
  have hlt : a.toNat < c.algRom.length := (Cfg.wf_algRom hc).symm ▸ a.isLt
  rw [algRow, List.getD_eq_getElem _ _ hlt, List.getElem?_eq_getElem hlt]

/-- Routing, with the modulation selected from the registers it leaves. -/
theorem route_eq (c : Cfg) (e : AlgEntry) (out : Int) (V : Voice) :
    route c e out V =
      { V with
        mem := if e.mw then swrap c.accW ((if e.mr then V.mem else 0) + out) else V.mem
        sum := if e.car then swrap c.accW (V.sum + out) else V.sum
        fb1 := if e.fben then out else V.fb1
        fb2 := if e.fben then V.fb1 else V.fb2
        mod := swrap c.accW (modSel c e.sel out (route c e out V)) } := by
  simp only [route, routeMod, routeMem_eq, routeSum_eq, routeFb_eq]
  rfl

theorem opEval_eq (c : Cfg) (V : Voice) (o : OpNum) :
    opEval c V o =
      { V with
        ops := V.ops.set o (operatorClocked c V o)
        mem := if (romEntry c V.alg o).mw then
            swrap c.accW ((if (romEntry c V.alg o).mr then V.mem else 0) + operatorOut c V o)
          else V.mem
        sum := if (romEntry c V.alg o).car then swrap c.accW (V.sum + operatorOut c V o) else V.sum
        fb1 := if (romEntry c V.alg o).fben then operatorOut c V o else V.fb1
        fb2 := if (romEntry c V.alg o).fben then V.fb1 else V.fb2
        mod := swrap c.accW
          (modSel c (romEntry c V.alg o).sel (operatorOut c V o) (opEval c V o)) } := by
  rw [opEval_eq_route]
  exact route_eq c _ _ _

/-- Settles O24: `operatorOut` line by line as the spec prints it, then `opEval_eq`, whose
modulation is read by the source that `SEL` names. -/
theorem oneOperatorEvaluationInOrder : Obligations.OneOperatorEvaluationInOrder := by
  intro c V o hc
  have hphi := Cfg.wf_phiW hc
  refine ⟨algRow c V.alg, phaseIndex c (phaseAfter c V o) V.mod, _, _, operatorOut c V o,
    algRom_getElem? hc V.alg, phaseIndex_eq hphi _ _, rfl, rfl, ?_, ?_⟩
  · rw [operatorOut, toneOut_eq hphi, toneMag, expLin_eq, attSum_eq, logSin_eq hphi, egAtt_eq_div,
      romEntry_eq_algRow]
  · refine (opEval_eq c V o).trans ?_
    have hfbl := opEval_fbl c V o
    rw [romEntry_eq_algRow]
    cases hsel : ((algRow c V.alg).get o).sel <;> simp only [modSel, asr_eq_div, hfbl] <;> rfl

end Sys2Proof.Machine
end

section
/-! PROOFS. Only `SAMPLE` of a voice moves its phases, attenuations and router registers (R39, R101,
R136, R143). -/

namespace Sys2Proof.Machine

/-- The router registers, `OUT` and `SEQ` of a voice (R30, R39). -/
def Voice.router (V : Voice) : Int × Int × Int × Int × Int × Int × Nat :=
  (V.mod, V.mem, V.sum, V.fb1, V.fb2, V.out, V.seq)

/-- Two voices whose phases, attenuations and router registers are the same. -/
def SameSound (W V : Voice) : Prop :=
  (∀ o, (W.ops.get o).phase = (V.ops.get o).phase ∧ (W.ops.get o).egCur = (V.ops.get o).egCur) ∧
    W.router = V.router

theorem SameSound.of_ops_eq {W V : Voice} (hops : W.ops = V.ops) (hrouter : W.router = V.router) :
    SameSound W V := ⟨fun _ => hops ▸ ⟨rfl, rfl⟩, hrouter⟩

theorem SameSound.refl (V : Voice) : SameSound V V := .of_ops_eq rfl rfl

theorem keyOnVoice_sameSound (V : Voice) : SameSound (keyOnVoice V) V :=
  ⟨fun o => by simp only [keyOnVoice, lfoKeyOn, PerOp.get_map, and_self], rfl⟩

theorem keyOffVoice_sameSound (V : Voice) : SameSound (keyOffVoice V) V :=
  ⟨fun o => by simp only [keyOffVoice, PerOp.get_map, and_self], rfl⟩

theorem tickVoice_sameSound (c : Cfg) (V : Voice) : SameSound (tickVoice c V) V := by
  rw [tickVoice_frame]
  exact .of_ops_eq rfl rfl

theorem setCtrlVoice_sameSound (c : Cfg) (n : Addr) (x : BitVec 7) (V : Voice) :
    SameSound (setCtrlVoice c n x V) V := by
  unfold setCtrlVoice
  split <;> exact .of_ops_eq rfl rfl

theorem regWrite_sameSound (c : Cfg) (V : Voice) (a : Addr) (d : Data) :
    SameSound (regWrite c V a d) V := by
  rcases regWrite_cases c V a d with ⟨o, r, -, hw⟩ | ⟨r, -, hw⟩ | ⟨-, hw⟩
  · rw [hw]
    refine ⟨fun o' => ?_, rfl⟩
    rcases eq_or_ne o' o with rfl | hne
    · obtain ⟨hphase, hcur, -⟩ := opRegWrite_runtime c (V.ops.get o') r d
      rw [PerOp.get_set_same]
      exact ⟨hphase, hcur⟩
    · rw [PerOp.get_set_ne _ _ hne]
      exact ⟨rfl, rfl⟩
  · rw [hw, voiceRegWrite_runtime]
    exact .of_ops_eq rfl rfl
  · rw [hw]
    exact .refl V

theorem voiceEffect_sameSound (c : Cfg) {i : Instr} (V : Voice) (h : i.opcode ≠ .sample) :
    SameSound (voiceEffect c i V) V := by
  cases i with
  | sample v => exact absurd rfl h
  | wrReg v a d => exact regWrite_sameSound c V a d
  | keyOn v => exact keyOnVoice_sameSound V
  | keyOff v => exact keyOffVoice_sameSound V
  | tick v => exact tickVoice_sameSound c V
  | setCtrl v n x => exact setCtrlVoice_sameSound c n x V
  | setPbend v x => exact .of_ops_eq rfl rfl
  | _ => exact .refl V

theorem eq_sample_of_opcode {i : Instr} {v : VoiceNum} (h : i.opcode = .sample)
    (hi : cmdVoice i = some v) : i = .sample v := by
  cases i with
  | sample u => exact congrArg _ (Option.some.inj hi)
  | _ => cases h

theorem exec_sameSound {i : Instr} {s t : State} {v : VoiceNum} {V W : Voice}
    (h : exec i s = .next t) (hV : voiceAt s v = some V) (hW : voiceAt t v = some W)
    (hne : i ≠ .sample v) : SameSound W V := by
  by_cases hi : cmdVoice i = some v
  · obtain rfl := Option.some.inj ((exec_voiceAt_named h hi hV).symm.trans hW)
    exact voiceEffect_sameSound s.cfg V fun hop => hne (eq_sample_of_opcode hop hi)
  · obtain rfl := Option.some.inj ((exec_voiceAt_unnamed h hi hV).symm.trans hW)
    exact .refl V

/-- Settles O47: a command leaves the record of a voice or applies its effect to it, and every
effect but that of `SAMPLE` keeps the sound. -/
theorem onlySampleMovesTheSound : Obligations.OnlySampleMovesTheSound := by
  intro i s t v V W h hV hW hne
  obtain ⟨hops, hrouter⟩ := exec_sameSound h hV hW hne
  simp only [Voice.router, Prod.mk.injEq] at hrouter
  exact ⟨hops, hrouter⟩

end Sys2Proof.Machine
end

section
/-! PROOFS. No accumulator overflows under the default ROM (R162): the outputs that each router
register holds, counted turn by turn. -/

namespace Sys2Proof.Machine

/-! Sums of operator outputs. -/

/-- A value as large as `n` operator outputs added up. -/
def OutputSum (n : Nat) (x : Int) : Prop := x.natAbs ≤ n * 16383

theorem OutputSum.mono {m n : Nat} {x : Int} (h : OutputSum m x) (hmn : m ≤ n) : OutputSum n x :=
  h.trans (Nat.mul_le_mul_right _ hmn)

theorem OutputSum.add {m n : Nat} {x y : Int} (hx : OutputSum m x) (hy : OutputSum n y) :
    OutputSum (m + n) (x + y) := by
  unfold OutputSum at *
  omega

theorem outputSum_zero : OutputSum 0 0 := Nat.le_refl 0

theorem operatorOut_outputSum {c : Cfg} (hc : c.wf = true) (V : Voice) (o : OpNum) :
    OutputSum 1 (operatorOut c V o) := natAbs_toneOut_le hc _ _ _ _

/-- An 18-bit accumulator holds eight outputs. -/
theorem swrap_of_outputSum {n : Nat} {x : Int} (h : OutputSum n x) (hn : n ≤ 8) :
    swrap 18 x = x := by
  have hx : x.natAbs ≤ 8 * 16383 := h.mono hn
  refine swrap_of_fits (by decide) ((fitsSigned_iff _ _).mpr ?_)
  omega

theorem outputRange_iff (x : Int) : outputRange x = true ↔ OutputSum 1 x := by
  simp only [outputRange, Bool.and_eq_true, decide_eq_true_eq, OutputSum]
  omega

theorem Voice.noWrap_iff (V : Voice) :
    V.noWrap = true ↔ OutputSum 3 V.mem ∧ OutputSum 6 V.sum ∧ OutputSum 6 V.out ∧
      OutputSum 1 V.fb1 ∧ OutputSum 1 V.fb2 := by
  simp only [Voice.noWrap, Bool.and_eq_true, decide_eq_true_eq, outputRange_iff]
  simp only [OutputSum]
  omega

theorem State.noWrap_iff (s : State) : s.noWrap = true ↔ ∀ V ∈ s.voices, V.noWrap = true :=
  List.all_eq_true

/-! The count of outputs in `MEM`, by the row of `ALG_ROM`. -/

/-- The outputs held by `MEM` after an evaluation by the entry `e`, from the number before. -/
def memOuts (e : AlgEntry) (n : Nat) : Nat := if e.mw then (if e.mr then n else 0) + 1 else n

/-- Evaluating the operators of the list by a row of `ALG_ROM`, from `n` outputs in `MEM`, never
puts more than three there. -/
def memWithinThree (row : PerOp AlgEntry) : List OpNum → Nat → Bool
  | [], _ => true
  | o :: l, n => memOuts (row.get o) n ≤ 3 && memWithinThree row l (memOuts (row.get o) n)

/-- In every default row the first write of `MEM` restarts it, and at most two follow (R157). -/
theorem defaultAlgRom_memWithinThree :
    ∀ row ∈ defaultAlgRom, memWithinThree row evalOrder 3 = true := by decide

theorem algRow_mem {c : Cfg} (hc : c.wf = true) (a : BitVec 5) : algRow c a ∈ c.algRom :=
  List.mem_of_getElem? (algRom_getElem? hc a)

/-! The router registers after one turn, after `SAMPLE`, and after any command. -/

/-- `MEM` holds at most `n` outputs, `SUM` at most `k`, each feedback register one. -/
structure RouterWithin (n k : Nat) (V : Voice) : Prop where
  mem : OutputSum n V.mem
  sum : OutputSum k V.sum
  fb1 : OutputSum 1 V.fb1
  fb2 : OutputSum 1 V.fb2

/-- An 18-bit `SUM` of at most seven outputs takes a carrier's output exactly. -/
theorem opEval_sum_of_outputSum {c : Cfg} (hc : c.wf = true) (hacc : c.accW = 18) {V : Voice}
    {k : Nat} (h : OutputSum k V.sum) (hk : k < 8) (o : OpNum) :
    (opEval c V o).sum = if (romEntry c V.alg o).car then V.sum + operatorOut c V o else V.sum := by
  rw [opEval_eq, hacc]
  simp only [swrap_of_outputSum (h.add (operatorOut_outputSum hc V o)) hk]

/-- `MEM` takes an output exactly while at most eight are held. -/
theorem opEval_mem_outputSum {c : Cfg} (hc : c.wf = true) (hacc : c.accW = 18) {V : Voice}
    {n : Nat} (h : OutputSum n V.mem) (o : OpNum) (hn : memOuts (romEntry c V.alg o) n ≤ 8) :
    OutputSum (memOuts (romEntry c V.alg o) n) (opEval c V o).mem := by
  rw [opEval_eq]
  unfold memOuts at hn ⊢
  by_cases hmw : (romEntry c V.alg o).mw = true
  · have hheld : OutputSum (if (romEntry c V.alg o).mr then n else 0)
        (if (romEntry c V.alg o).mr then V.mem else 0) := by
      split
      · exact h
      · exact outputSum_zero
    have hsum := hheld.add (operatorOut_outputSum hc V o)
    simp only [if_pos hmw, hacc] at hn ⊢
    rwa [swrap_of_outputSum hsum hn]
  · simp only [if_neg hmw]
    exact h

theorem opEval_routerWithin {c : Cfg} (hc : c.wf = true) (hacc : c.accW = 18) {V : Voice}
    {n k : Nat} (h : RouterWithin n k V) (o : OpNum) (hk : k < 8)
    (hn : memOuts (romEntry c V.alg o) n ≤ 8) :
    RouterWithin (memOuts (romEntry c V.alg o) n) (k + 1) (opEval c V o) := by
  have hout := operatorOut_outputSum hc V o
  refine ⟨opEval_mem_outputSum hc hacc h.mem o hn, ?sum, ?fb1, ?fb2⟩
  case sum =>
    rw [opEval_sum_of_outputSum hc hacc h.sum hk]
    split
    · exact h.sum.add hout
    · exact h.sum.mono (Nat.le_succ k)
  case fb1 =>
    rw [opEval_eq]
    dsimp only
    split
    · exact hout
    · exact h.fb1
  case fb2 =>
    rw [opEval_eq]
    dsimp only
    split
    · exact h.fb1
    · exact h.fb2

theorem seqEval_alg (c : Cfg) (V : Voice) (o : OpNum) : (seqEval c V o).alg = V.alg :=
  opEval_alg c _ o

/-- The turns of a list of operators, by a row that keeps three outputs in `MEM`. -/
theorem foldl_seqEval_routerWithin {c : Cfg} (hc : c.wf = true) (hacc : c.accW = 18)
    {l : List OpNum} {V : Voice} {n k : Nat} (h : RouterWithin n k V) (hn : n ≤ 3)
    (hk : k + l.length ≤ 8) (hrow : memWithinThree (algRow c V.alg) l n = true) :
    RouterWithin 3 (k + l.length) (l.foldl (seqEval c) V) := by
  induction l generalizing V n k with
  | nil => exact { h with mem := h.mem.mono hn }
  | cons o l ih =>
    simp only [memWithinThree, Bool.and_eq_true, decide_eq_true_eq] at hrow
    obtain ⟨hthree, hrest⟩ := hrow
    rw [List.length_cons] at hk ⊢
    have hstep : RouterWithin (memOuts ((algRow c V.alg).get o) n) (k + 1) (seqEval c V o) :=
      opEval_routerWithin hc hacc (V := { V with seq := o.num }) { h with } o (by omega)
        (hthree.trans (by decide))
    rw [List.foldl_cons, Nat.add_comm l.length, ← Nat.add_assoc]
    exact ih hstep hthree (by omega) (by rwa [seqEval_alg])

/-- A `SAMPLE` clears `SUM` and adds at most six outputs to it. -/
theorem sampleVoice_noWrap {c : Cfg} (hc : c.wf = true) (hacc : c.accW = 18)
    (hrom : c.algRom = defaultAlgRom) {V : Voice} (h : V.noWrap = true) :
    (sampleVoice c V).noWrap = true := by
  obtain ⟨hmem, -, -, hfb1, hfb2⟩ := V.noWrap_iff.mp h
  have hrow : memWithinThree (algRow c V.alg) evalOrder 3 = true :=
    defaultAlgRom_memWithinThree _ (hrom ▸ algRow_mem hc V.alg)
  obtain ⟨hmem', hsum', hfb1', hfb2'⟩ :=
    foldl_seqEval_routerWithin hc hacc (l := evalOrder) (V := { V with sum := 0 })
      ⟨hmem, outputSum_zero, hfb1, hfb2⟩ (Nat.le_refl 3) (by decide) hrow
  exact (Voice.noWrap_iff _).mpr ⟨hmem', hsum', hsum', hfb1', hfb2'⟩

theorem SameSound.noWrap_eq {W V : Voice} (h : SameSound W V) : W.noWrap = V.noWrap := by
  obtain ⟨-, hrouter⟩ := h
  simp only [Voice.router, Prod.mk.injEq] at hrouter
  obtain ⟨-, hmem, hsum, hfb1, hfb2, hout, -⟩ := hrouter
  simp only [Voice.noWrap, hmem, hsum, hfb1, hfb2, hout]

theorem voiceEffect_noWrap {c : Cfg} (hc : c.wf = true) (hacc : c.accW = 18)
    (hrom : c.algRom = defaultAlgRom) (i : Instr) {V : Voice} (h : V.noWrap = true) :
    (voiceEffect c i V).noWrap = true := by
  by_cases hop : i.opcode = .sample
  · cases i with
    | sample v => exact sampleVoice_noWrap hc hacc hrom h
    | _ => cases hop
  · rw [(voiceEffect_sameSound c V hop).noWrap_eq]
    exact h

/-- Settles O60: a command replaces at most one voice record, by `voiceEffect`; `SAMPLE` keeps the
bounds by the count of outputs in the row, every other effect keeps the sound. -/
theorem accumulatorsDoNotOverflow : Obligations.AccumulatorsDoNotOverflow := by
  intro i s t hs hacc hrom hwithin h
  obtain ⟨hc, -, -⟩ := s.wf_iff.mp hs
  rcases exec_cases h with ⟨rfl, -⟩ | ⟨v, a, V, -, -, rfl⟩ | ⟨v, V, -, -, hV, rfl⟩
  · exact hwithin
  · exact hwithin
  · rw [State.noWrap_iff] at hwithin ⊢
    intro W hW
    rcases mem_putVoice hW with rfl | hold
    · exact voiceEffect_noWrap hc hacc hrom i (hwithin V (voiceAt_mem hV))
    · exact hwithin W hold

end Sys2Proof.Machine
end

section
/-! PROOFS. Algorithm 32 without feedback is additive (R160): no turn leaves a modulation, so every
operator gives its unmodulated output. -/

namespace Sys2Proof.Machine

/-- The output that an operator gives from its own phase, envelope and amplitude modulation, with
no phase modulation and level compensation 5. -/
def plainOut (c : Cfg) (V : Voice) (o : OpNum) : Int :=
  toneOut c (phaseIndex c (phaseAfter c V o) 0) (egAtt c (egClock c (V.ops.get o))) (amAtt c V o) 5

theorem plainOut_outputSum {c : Cfg} (hc : c.wf = true) (V : Voice) (o : OpNum) :
    OutputSum 1 (plainOut c V o) := natAbs_toneOut_le hc _ _ _ _

/-- The amplitude modulation of an operator reads its own record and the voice's controls only. -/
theorem amAtt_seqEval_ne (c : Cfg) (V : Voice) {o o' : OpNum} (h : o' ≠ o) :
    amAtt c (seqEval c V o) o' = amAtt c V o' := by
  rw [amAtt, seqEval_ops_get_ne c V h, seqEval, opEval_frame]
  rfl

theorem plainOut_seqEval_ne (c : Cfg) (V : Voice) {o o' : OpNum} (h : o' ≠ o) :
    plainOut c (seqEval c V o) o' = plainOut c V o' := by
  simp only [plainOut, phaseAfter, pinc_seqEval_ne c V h, seqEval_ops_get_ne c V h,
    amAtt_seqEval_ne c V h]

/-- In row 31 every operator is a carrier with `COM` 5, and none modulates another (R157). -/
theorem defaultAlgRom_additive (o : OpNum) :
    (((defaultAlgRom.getD 31 (PerOp.const silentEntry)).get o).sel = .zero ∨
      ((defaultAlgRom.getD 31 (PerOp.const silentEntry)).get o).sel = .fbPair) ∧
    ((defaultAlgRom.getD 31 (PerOp.const silentEntry)).get o).car = true ∧
    ((defaultAlgRom.getD 31 (PerOp.const silentEntry)).get o).com = 5 := by
  cases o <;> decide

theorem romEntry_additive {c : Cfg} (hrom : c.algRom = defaultAlgRom) (o : OpNum) :
    ((romEntry c 31 o).sel = .zero ∨ (romEntry c 31 o).sel = .fbPair) ∧
      (romEntry c 31 o).car = true ∧ (romEntry c 31 o).com = 5 := by
  rw [romEntry, hrom]
  exact defaultAlgRom_additive o

theorem modSel_eq_zero {c : Cfg} {sel : Sel} (hsel : sel = .zero ∨ sel = .fbPair) (out : Int)
    {V : Voice} (hfbl : V.fbl = 0) : modSel c sel out V = 0 := by
  rcases hsel with rfl | rfl
  · rfl
  · exact if_pos hfbl

theorem seqEval_mod (c : Cfg) (V : Voice) (o : OpNum) :
    (seqEval c V o).mod = swrap c.accW
      (modSel c (romEntry c V.alg o).sel (operatorOut c V o) (seqEval c V o)) :=
  congrArg Voice.mod (opEval_eq c { V with seq := o.num } o)

theorem seqEval_sum_of_outputSum {c : Cfg} (hc : c.wf = true) (hacc : c.accW = 18) {V : Voice}
    {k : Nat} (h : OutputSum k V.sum) (hk : k < 8) (o : OpNum) :
    (seqEval c V o).sum = if (romEntry c V.alg o).car then V.sum + operatorOut c V o else V.sum :=
  opEval_sum_of_outputSum hc hacc (V := { V with seq := o.num }) h hk o

/-- A voice on algorithm 32 with no feedback and no modulation waiting. -/
structure Additive (V : Voice) : Prop where
  alg : V.alg = 31
  fbl : V.fbl = 0
  mod : V.mod = 0

/-- One turn under algorithm 32: no modulation is left, and the plain output is added. -/
theorem seqEval_additive {c : Cfg} (hc : c.wf = true) (hacc : c.accW = 18)
    (hrom : c.algRom = defaultAlgRom) {V : Voice} (h : Additive V) {k : Nat}
    (hsum : OutputSum k V.sum) (hk : k < 8) (o : OpNum) :
    Additive (seqEval c V o) ∧ (seqEval c V o).sum = V.sum + plainOut c V o := by
  obtain ⟨hsel, hcar, hcom⟩ := romEntry_additive hrom o
  rw [← h.alg] at hsel hcar hcom
  have hfbl : (seqEval c V o).fbl = 0 := (opEval_fbl c _ o).trans h.fbl
  have hout : operatorOut c V o = plainOut c V o := by rw [operatorOut, h.mod, hcom, plainOut]
  refine ⟨⟨(seqEval_alg c V o).trans h.alg, hfbl, ?_⟩, ?_⟩
  · rw [seqEval_mod, modSel_eq_zero hsel _ hfbl, hacc,
      swrap_of_outputSum outputSum_zero (by decide)]
  · rw [seqEval_sum_of_outputSum hc hacc hsum hk, if_pos hcar, hout]

theorem foldl_seqEval_additive {c : Cfg} (hc : c.wf = true) (hacc : c.accW = 18)
    (hrom : c.algRom = defaultAlgRom) {l : List OpNum} (hl : l.Nodup) {V : Voice}
    (h : Additive V) {k : Nat} (hsum : OutputSum k V.sum) (hk : k + l.length ≤ 8) :
    Additive (l.foldl (seqEval c) V) ∧
      (l.foldl (seqEval c) V).sum = V.sum + (l.map (plainOut c V)).sum := by
  induction l generalizing V k with
  | nil => exact ⟨h, (Int.add_zero _).symm⟩
  | cons o l ih =>
    obtain ⟨ho, hl'⟩ := List.nodup_cons.mp hl
    rw [List.length_cons] at hk
    obtain ⟨hadd, hstep⟩ := seqEval_additive hc hacc hrom h hsum (by omega) o
    have hsum' : OutputSum (k + 1) (seqEval c V o).sum :=
      hstep ▸ hsum.add (plainOut_outputSum hc V o)
    have hrest : l.map (plainOut c (seqEval c V o)) = l.map (plainOut c V) :=
      List.map_congr_left fun o' ho' => plainOut_seqEval_ne c V fun heq => ho (heq ▸ ho')
    obtain ⟨hend, hendSum⟩ := ih hl' hadd hsum' (by omega)
    refine ⟨hend, ?_⟩
    rw [List.foldl_cons, hendSum, hstep, hrest, List.map_cons, List.sum_cons, Int.add_assoc]

theorem evalOrder_eq_reverse : evalOrder = OpNum.all.reverse := rfl

/-- Settles O27: no turn leaves a modulation, so each adds its plain output, and the order of six
summands does not matter. -/
theorem algorithm32IsAdditive : Obligations.Algorithm32IsAdditive := by
  intro s v V hc hacc hrom hV halg hfbl hmod
  obtain ⟨hadd, hsum⟩ := foldl_seqEval_additive hc hacc hrom evalOrder_nodup
    (V := { V with sum := 0 }) ⟨halg, hfbl, hmod⟩ outputSum_zero (by decide)
  refine ⟨sampleVoice s.cfg V, exec_sample_some hV, hadd.mod, hadd.alg, hadd.fbl, ?_⟩
  calc (sampleVoice s.cfg V).out
      = 0 + (evalOrder.map (plainOut s.cfg V)).sum := hsum
    _ = (OpNum.all.map (plainOut s.cfg V)).sum := by
        rw [Int.zero_add, evalOrder_eq_reverse, List.map_reverse, List.sum_reverse]

end Sys2Proof.Machine
end

section
/-! PROOFS. What one `TICK` makes of the LFO (R172 to R178): the wave by the phase as a number, the
delay and the fade by the stage, and each runtime field as a function of the voice before it. -/

namespace Sys2Proof.Machine

/-! The wave shapes (R176, R178). -/

/-- The top bit of the phase is its second half cycle. -/
theorem phase_getLsbD_fifteen (p : BitVec 16) : p.getLsbD 15 = true ↔ 0x8000 ≤ p.toNat := by
  have := p.isLt
  rw [BitVec.getLsbD, Nat.testBit_eq_decide_div_mod_eq, decide_eq_true_eq]
  omega

/-- The next bit of the phase is the parity of its quadrant. -/
theorem phase_getLsbD_fourteen (p : BitVec 16) :
    p.getLsbD 14 = true ↔ p.toNat / 16384 % 2 = 1 := by
  rw [BitVec.getLsbD, Nat.testBit_eq_decide_div_mod_eq, decide_eq_true_eq]

theorem phase_topByte_toNat (p : BitVec 16) : (p.extractLsb' 8 8).toNat = p.toNat / 256 := by
  have := p.isLt
  rw [BitVec.extractLsb'_toNat, Nat.shiftRight_eq_div_pow]
  omega

theorem waveTriangle_eq (p : BitVec 16) :
    waveTriangle p =
      if 0x8000 ≤ p.toNat then 255 - p.toNat / 128 % 256 else p.toNat / 128 % 256 := by
  have ht : (p.extractLsb' 7 8).toNat = p.toNat / 128 % 256 := by
    rw [BitVec.extractLsb'_toNat, Nat.shiftRight_eq_div_pow]
  simp only [waveTriangle, ht, phase_getLsbD_fifteen]

theorem waveSine_eq (c : Cfg) (p : BitVec 16) :
    waveSine c p =
      let i := p.toNat / 256 % 64
      let m := tbl c.lfoSine (if p.toNat / 16384 % 2 = 1 then 63 - i else i)
      if 2 ≤ p.toNat / 16384 then 128 - m else 128 + m := by
  have hi : (p.extractLsb' 8 6).toNat = p.toNat / 256 % 64 := by
    rw [BitVec.extractLsb'_toNat, Nat.shiftRight_eq_div_pow]
  have hhalf : 0x8000 ≤ p.toNat ↔ 2 ≤ p.toNat / 16384 := by omega
  simp only [waveSine, hi, phase_getLsbD_fourteen, phase_getLsbD_fifteen, hhalf]

theorem wave_square (c : Cfg) (p : BitVec 16) (r : BitVec 8) :
    wave c 3 p r = if 0x8000 ≤ p.toNat then 0 else 255 := by
  show (if p.getLsbD 15 then 0 else 255) = _
  simp only [phase_getLsbD_fifteen]

theorem wave_reserved (c : Cfg) {w : BitVec 3} (h : w = 6 ∨ w = 7) (p : BitVec 16) (r : BitVec 8) :
    wave c w p r = 128 := by
  rcases h with rfl | rfl <;> rfl

/-- Settles O36: one code after the other, each by the value of the phase bits that it reads. -/
theorem waveShapesByPhase : Obligations.WaveShapesByPhase := fun c p r =>
  ⟨waveTriangle_eq p, congrArg (255 - ·) (phase_topByte_toNat p), phase_topByte_toNat p,
    wave_square c p r, waveSine_eq c p, rfl, wave_reserved c (.inl rfl) p r,
    wave_reserved c (.inr rfl) p r⟩

/-! Delay and fade (R173, R174). -/

/-- One step of the delay or the fade accumulator, which saturates at 0xFFFF. -/
def accStep (acc inc : BitVec 16) : BitVec 16 :=
  if 0xFFFF ≤ acc.toNat + inc.toNat then 0xFFFF else BitVec.ofNat 16 (acc.toNat + inc.toNat)

theorem accStep_toNat (acc inc : BitVec 16) :
    (accStep acc inc).toNat = min 0xFFFF (acc.toNat + inc.toNat) := by
  unfold accStep
  split
  case isTrue h => exact (Nat.min_eq_left h).symm
  case isFalse h =>
    rw [Nat.min_eq_right (by omega)]
    exact toNat_ofNat_of_lt (by omega)

theorem lfoGate_of_delay {V : Voice} (h : V.lfoStage = .delay) :
    lfoGate V =
      { V with
        lfoDelayAcc := accStep V.lfoDelayAcc V.lfoDelayInc
        lfoStage := if 0xFFFF ≤ V.lfoDelayAcc.toNat + V.lfoDelayInc.toNat then .fade else .delay } := by
  simp only [lfoGate, h, accStep]
  split
  · rfl
  · rw [← h]

theorem lfoGate_of_fade {V : Voice} (h : V.lfoStage = .fade) :
    lfoGate V =
      { V with
        lfoFadeAcc := accStep V.lfoFadeAcc V.lfoFadeInc
        lfoStage := if 0xFFFF ≤ V.lfoFadeAcc.toNat + V.lfoFadeInc.toNat then .steady else .fade } := by
  simp only [lfoGate, h, accStep]
  split
  · rfl
  · rw [← h]

theorem lfoGate_of_steady {V : Voice} (h : V.lfoStage = .steady) : lfoGate V = V := by
  simp only [lfoGate, h]

/-! The fields of a voice after a tick. -/

theorem exec_tick_some {s : State} {v : VoiceNum} {V : Voice} (h : voiceAt s v = some V) :
    exec (.tick v) s = .next (putVoice s v (tickVoice s.cfg V)) := exec_on_voice rfl rfl h

theorem tickVoice_lfoDelayAcc (c : Cfg) (V : Voice) :
    (tickVoice c V).lfoDelayAcc = (lfoGate V).lfoDelayAcc := by
  rw [tickVoice, pegTick_frame]
  rfl

theorem tickVoice_lfoFadeAcc (c : Cfg) (V : Voice) :
    (tickVoice c V).lfoFadeAcc = (lfoGate V).lfoFadeAcc := by
  rw [tickVoice, pegTick_frame]
  rfl

theorem tickVoice_lfoStage (c : Cfg) (V : Voice) :
    (tickVoice c V).lfoStage = (lfoGate V).lfoStage := by
  rw [tickVoice, pegTick_frame]
  rfl

theorem tickVoice_pegToggle (c : Cfg) (V : Voice) : (tickVoice c V).pegToggle = !V.pegToggle := by
  rw [tickVoice_frame]

theorem tickVoice_lfoDelayInc (c : Cfg) (V : Voice) :
    (tickVoice c V).lfoDelayInc = V.lfoDelayInc := by rw [tickVoice_frame]

theorem tickVoice_lfoWave (c : Cfg) (V : Voice) : (tickVoice c V).lfoWave = V.lfoWave := by
  rw [tickVoice_frame]

theorem tickVoice_lfoPhase (c : Cfg) (V : Voice) :
    (tickVoice c V).lfoPhase = V.lfoPhase + V.lfoInc := by
  rw [tickVoice, pegTick_frame, lfoTick, lfoGate_frame]
  exact BitVec.eq_of_toNat_eq (by rw [BitVec.toNat_add]; rfl)

theorem lcgNext_toNat (c : Cfg) (r : BitVec 8) :
    (lcgNext c r).toNat = (r.toNat * c.lcgA + c.lcgC) % 256 := BitVec.toNat_ofNat _ 8

theorem tickVoice_lfoRand (c : Cfg) (V : Voice) :
    (tickVoice c V).lfoRand =
      if 65536 ≤ V.lfoPhase.toNat + V.lfoInc.toNat then lcgNext c V.lfoRand else V.lfoRand := by
  rw [tickVoice, pegTick_frame, lfoTick, lfoGate_frame]
  rfl

theorem tickVoice_lfoRand_toNat (c : Cfg) (V : Voice) :
    (tickVoice c V).lfoRand.toNat =
      if 65536 ≤ V.lfoPhase.toNat + V.lfoInc.toNat then
        (V.lfoRand.toNat * c.lcgA + c.lcgC) % 256
      else V.lfoRand.toNat := by
  rw [tickVoice_lfoRand, apply_ite BitVec.toNat, lcgNext_toNat]

/-- Settles O34: the tick gates by the stage, advances the phase, and writes nothing beyond
`tickVoice_frame`. -/
theorem tickMovesTheLfo : Obligations.TickMovesTheLfo := by
  intro s v V hV
  refine ⟨tickVoice s.cfg V, exec_tick_some hV, fun hdelay => ?_, fun hfade => ?_, fun hsteady => ?_,
    ?_, tickVoice_lfoRand_toNat s.cfg V, tickVoice_pegToggle s.cfg V, ?_⟩
  · rw [tickVoice_lfoFadeAcc, tickVoice_lfoDelayAcc, tickVoice_lfoStage, lfoGate_of_delay hdelay]
    exact ⟨rfl, accStep_toNat _ _, rfl⟩
  · rw [tickVoice_lfoFadeAcc, tickVoice_lfoDelayAcc, tickVoice_lfoStage, lfoGate_of_fade hfade]
    exact ⟨rfl, accStep_toNat _ _, rfl⟩
  · rw [tickVoice_lfoFadeAcc, tickVoice_lfoDelayAcc, tickVoice_lfoStage, lfoGate_of_steady hsteady]
    exact ⟨rfl, rfl, hsteady⟩
  · rw [tickVoice_lfoPhase, BitVec.toNat_add]
  · rw [tickVoice_frame]

/-! The two outputs (R177, R178). -/

theorem lfoDepth_eq (fade depth mix : Nat) :
    lfoDepth fade depth mix = min 255 (fade * depth / 256 + mix) := by
  rw [lfoDepth, Nat.shiftRight_eq_div_pow]

theorem lfoPitchOut_eq (u pd : Nat) : lfoPitchOut u pd = ((u : Int) - 128) * (pd : Int) / 256 :=
  asr_eq_div _ 8

theorem lfoAmpOut_eq (u ad : Nat) : lfoAmpOut u ad = u * ad / 256 := Nat.shiftRight_eq_div_pow _ 8

/-- The pitch output of a centred wave is 0 at every depth. -/
theorem lfoPitchOut_centre (pd : Nat) : lfoPitchOut 128 pd = 0 := by
  rw [lfoPitchOut_eq, Nat.cast_ofNat, Int.sub_self, Int.zero_mul, Int.zero_ediv]

theorem lfoPitchOut_range {u pd : Nat} (hu : u ≤ 255) (hpd : pd ≤ 255) :
    -128 ≤ lfoPitchOut u pd ∧ lfoPitchOut u pd ≤ 126 := by
  have hlow : -128 * 255 ≤ ((u : Int) - 128) * (pd : Int) := by nlinarith
  have hhigh : ((u : Int) - 128) * (pd : Int) ≤ 127 * 255 := by nlinarith
  rw [lfoPitchOut_eq]
  omega

theorem lfoAmpOut_le {u ad : Nat} (hu : u ≤ 255) (had : ad ≤ 255) : lfoAmpOut u ad ≤ 254 := by
  have : u * ad ≤ 255 * 255 := Nat.mul_le_mul hu had
  rw [lfoAmpOut_eq]
  omega

theorem toInt_ofInt_eight {x : Int} (hl : -128 ≤ x) (hu : x ≤ 127) : (BitVec.ofInt 8 x).toInt = x := by
  rw [BitVec.toInt_ofInt]
  exact Int.bmod_eq_of_le (by omega) (by omega)

/-- The wave value of the tick: the voice's wave at the phase and the random value it leaves. -/
def tickWave (c : Cfg) (V : Voice) : Nat :=
  wave c V.lfoWave (tickVoice c V).lfoPhase (tickVoice c V).lfoRand

/-- The depth of the tick, from a depth register and the controllers' part of it. -/
def tickDepth (c : Cfg) (V : Voice) (depth : BitVec 8) (mix : Nat) : Nat :=
  lfoDepth ((tickVoice c V).lfoFadeAcc.toNat / 256) depth.toNat mix

theorem tickDepth_eq (c : Cfg) (V : Voice) (depth : BitVec 8) (mix : Nat) :
    tickDepth c V depth mix =
      min 255 ((tickVoice c V).lfoFadeAcc.toNat / 256 * depth.toNat / 256 + mix) := lfoDepth_eq _ _ _

theorem tickDepth_le (c : Cfg) (V : Voice) (depth : BitVec 8) (mix : Nat) :
    tickDepth c V depth mix ≤ 255 := lfoDepth_le _ _ _

theorem tickWave_le {c : Cfg} (h : c.wf = true) (V : Voice) : tickWave c V ≤ 255 := wave_le h _ _ _

theorem tickVoice_lfoPout (c : Cfg) (V : Voice) :
    (tickVoice c V).lfoPout =
      BitVec.ofInt 8 (lfoPitchOut (tickWave c V) (tickDepth c V V.lfoPmd (mixP c V))) := by
  rw [tickWave, tickDepth, ← lfoFade_eq_div, tickVoice, pegTick_frame, lfoTick, lfoGate_frame]
  rfl

theorem tickVoice_lfoAout (c : Cfg) (V : Voice) :
    (tickVoice c V).lfoAout =
      BitVec.ofNat 8 (lfoAmpOut (tickWave c V) (tickDepth c V V.lfoAmd (mixA c V))) := by
  rw [tickWave, tickDepth, ← lfoFade_eq_div, tickVoice, pegTick_frame, lfoTick, lfoGate_frame]
  rfl

/-- An amplitude output of a wave and a depth in range fits its eight bits. -/
theorem tickVoice_lfoAout_toNat {c : Cfg} {V : Voice} (h : tickWave c V ≤ 255) :
    (tickVoice c V).lfoAout.toNat = lfoAmpOut (tickWave c V) (tickDepth c V V.lfoAmd (mixA c V)) := by
  have := lfoAmpOut_le h (tickDepth_le c V V.lfoAmd (mixA c V))
  rw [tickVoice_lfoAout]
  exact toNat_ofNat_of_lt (by omega)

/-- A pitch output of a wave and a depth in range fits its eight signed bits. -/
theorem tickVoice_lfoPout_toInt {c : Cfg} {V : Voice} (h : tickWave c V ≤ 255) :
    (tickVoice c V).lfoPout.toInt =
      lfoPitchOut (tickWave c V) (tickDepth c V V.lfoPmd (mixP c V)) := by
  obtain ⟨hlow, hhigh⟩ := lfoPitchOut_range h (tickDepth_le c V V.lfoPmd (mixP c V))
  rw [tickVoice_lfoPout]
  exact toInt_ofInt_eight hlow (by omega)

/-- Settles O35: a wave of an accepted configuration and a clamped depth are at most 255, so the
outputs are in range and their registers hold them whole. -/
theorem tickComputesTheOutputs : Obligations.TickComputesTheOutputs := by
  intro s v V hc hV
  have hu := tickWave_le hc V
  obtain ⟨hlow, hhigh⟩ := lfoPitchOut_range hu (tickDepth_le s.cfg V V.lfoPmd (mixP s.cfg V))
  have hamp := lfoAmpOut_le hu (tickDepth_le s.cfg V V.lfoAmd (mixA s.cfg V))
  refine ⟨tickVoice s.cfg V, exec_tick_some hV, ?_⟩
  rw [tickVoice_lfoWave, tickVoice_lfoPout_toInt hu, tickVoice_lfoAout_toNat hu]
  refine ⟨?_, ?_, hlow, hhigh, hamp⟩
  · rw [lfoPitchOut_eq, tickDepth_eq, tickWave]
  · rw [lfoAmpOut_eq, tickDepth_eq, tickWave]

/-- Settles O37: a reserved code makes the wave its centre 128, whatever the phase. -/
theorem reservedWavesAreCentred : Obligations.ReservedWavesAreCentred := by
  intro s v V hV hwave
  have hcentre : tickWave s.cfg V = 128 := wave_reserved s.cfg hwave _ _
  refine ⟨tickVoice s.cfg V, exec_tick_some hV, ?_, ?_⟩
  · rw [tickVoice_lfoPout, hcentre, lfoPitchOut_centre]
    rfl
  · rw [tickVoice_lfoAout_toNat (by omega), hcentre, lfoAmpOut_eq, tickDepth_eq]

end Sys2Proof.Machine
end

section
/-! PROOFS. The LFO over several commands: key-on and the tick after it (R171), the length of the
delay (R173), and the commands that leave the LFO and the pitch envelope alone (R170, R191, R194). -/

namespace Sys2Proof.Machine

/-! Key-on (R171). -/

theorem exec_keyOn_some {s : State} {v : VoiceNum} {V : Voice} (h : voiceAt s v = some V) :
    exec (.keyOn v) s = .next (putVoice s v (keyOnVoice V)) := exec_on_voice rfl rfl h

theorem keyOnVoice_lfoPhase_of_sync {V : Voice} (h : V.lfoSync = 1) :
    (keyOnVoice V).lfoPhase = 0xFFFF := if_pos h

theorem keyOnVoice_lfoPhase_of_not_sync {V : Voice} (h : V.lfoSync ≠ 1) :
    (keyOnVoice V).lfoPhase = V.lfoPhase := if_neg h

theorem runCmds_keyOn_tick {s : State} {v : VoiceNum} {V : Voice} (h : voiceAt s v = some V) :
    runCmds [.keyOn v, .tick v] s = .next (putVoice s v (tickVoice s.cfg (keyOnVoice V))) := by
  rw [runCmds_cons_next _ (exec_keyOn_some h),
    runCmds_cons_next _ (exec_tick_some (voiceAt_putVoice_same _ h)), putVoice_putVoice, runCmds,
    putVoice_cfg]

/-- A phase of 0xFFFF carries with every increment but 0, to one below the increment. -/
theorem tickVoice_keyOnVoice_of_sync (c : Cfg) {V : Voice} (h : V.lfoSync = 1) :
    (tickVoice c (keyOnVoice V)).lfoPhase = V.lfoInc - 1 ∧
      (tickVoice c (keyOnVoice V)).lfoRand.toNat =
        if 1 ≤ V.lfoInc.toNat then (V.lfoRand.toNat * c.lcgA + c.lcgC) % 256
        else V.lfoRand.toNat := by
  have hinc : (keyOnVoice V).lfoInc = V.lfoInc := rfl
  have hrand : (keyOnVoice V).lfoRand = V.lfoRand := rfl
  have hcarry : 65536 ≤ (0xFFFF : BitVec 16).toNat + V.lfoInc.toNat ↔ 1 ≤ V.lfoInc.toNat := by
    have : (0xFFFF : BitVec 16).toNat = 65535 := rfl
    omega
  rw [tickVoice_lfoPhase, tickVoice_lfoRand_toNat, keyOnVoice_lfoPhase_of_sync h, hinc, hrand]
  exact ⟨by bv_omega, by simp only [hcarry]⟩

/-- Settles O21: the fields `KEY_ON` writes, the tick that starts from them, and the two fields
`KEY_OFF` writes. -/
theorem keyOnRestartsTheLfo : Obligations.KeyOnRestartsTheLfo := by
  intro s v V hV
  refine ⟨⟨keyOnVoice V, exec_keyOn_some hV, rfl, rfl, rfl, rfl, rfl, rfl,
      keyOnVoice_lfoPhase_of_sync, keyOnVoice_lfoPhase_of_not_sync⟩,
    ⟨tickVoice s.cfg (keyOnVoice V), runCmds_keyOn_tick hV, tickVoice_keyOnVoice_of_sync s.cfg,
      fun hsync => ?_⟩,
    keyOffVoice V, exec_on_voice rfl rfl hV, rfl⟩
  rw [tickVoice_lfoPhase, keyOnVoice_lfoPhase_of_not_sync hsync]
  rfl

/-! The length of the delay (R173). -/

/-- Ticks of one voice compose: `k` of them put the `k`th iterate of the effect of one. -/
theorem runCmds_replicate_tick {s : State} {v : VoiceNum} {V : Voice} (h : voiceAt s v = some V)
    (k : Nat) :
    runCmds (List.replicate k (.tick v)) s = .next (putVoice s v ((tickVoice s.cfg)^[k] V)) := by
  induction k generalizing s V with
  | zero => exact congrArg _ (putVoice_self h).symm
  | succ k ih =>
    rw [List.replicate_succ, runCmds_cons_next _ (exec_tick_some h),
      ih (voiceAt_putVoice_same _ h), putVoice_putVoice, putVoice_cfg, Function.iterate_succ_apply]

/-- The voice `W` stands `k` ticks after `V`, whose delay begins: it is in Delay exactly while `k`
increments stay below 0xFFFF, and then its accumulator holds them and the fade has not moved. -/
structure DelayedFor (V : Voice) (k : Nat) (W : Voice) : Prop where
  inc : W.lfoDelayInc = V.lfoDelayInc
  stage : W.lfoStage = .delay ↔ k * V.lfoDelayInc.toNat < 0xFFFF
  acc : k * V.lfoDelayInc.toNat < 0xFFFF →
    W.lfoDelayAcc.toNat = k * V.lfoDelayInc.toNat ∧ W.lfoFadeAcc = V.lfoFadeAcc

theorem DelayedFor.zero {V : Voice} (hstage : V.lfoStage = .delay) (hacc : V.lfoDelayAcc = 0) :
    DelayedFor V 0 V :=
  ⟨rfl, by simp [hstage], fun _ => by simp [hacc]⟩

/-- Delay is entered by no tick. -/
theorem tickVoice_lfoStage_ne_delay (c : Cfg) {V : Voice} (h : V.lfoStage ≠ .delay) :
    (tickVoice c V).lfoStage ≠ .delay := by
  rw [tickVoice_lfoStage]
  cases hstage : V.lfoStage with
  | delay => exact absurd hstage h
  | fade =>
    rw [lfoGate_of_fade hstage]
    dsimp only
    split <;> decide
  | steady => rwa [lfoGate_of_steady hstage]

theorem DelayedFor.succ (c : Cfg) {V W : Voice} {k : Nat} (h : DelayedFor V k W) :
    DelayedFor V (k + 1) (tickVoice c W) := by
  have hsucc : (k + 1) * V.lfoDelayInc.toNat = k * V.lfoDelayInc.toNat + V.lfoDelayInc.toNat :=
    Nat.succ_mul _ _
  by_cases hk : k * V.lfoDelayInc.toNat < 0xFFFF
  · have hgate := lfoGate_of_delay (h.stage.mpr hk)
    obtain ⟨hacc, hfade⟩ := h.acc hk
    refine ⟨(tickVoice_lfoDelayInc c W).trans h.inc, ?_, fun hlt => ?_⟩
    · rw [tickVoice_lfoStage, hgate, hacc, h.inc, hsucc]
      simp
    · rw [tickVoice_lfoDelayAcc, tickVoice_lfoFadeAcc, hgate, accStep_toNat, hacc, h.inc, hsucc]
      exact ⟨Nat.min_eq_right (by omega), hfade⟩
  · have hout := tickVoice_lfoStage_ne_delay c (mt h.stage.mp hk)
    exact ⟨(tickVoice_lfoDelayInc c W).trans h.inc, iff_of_false hout (by omega),
      fun hlt => absurd hlt (by omega)⟩

theorem delayedFor_iterate (c : Cfg) {V : Voice} (hstage : V.lfoStage = .delay)
    (hacc : V.lfoDelayAcc = 0) (k : Nat) : DelayedFor V k ((tickVoice c)^[k] V) := by
  induction k with
  | zero => exact .zero hstage hacc
  | succ k ih =>
    rw [Function.iterate_succ_apply']
    exact ih.succ c

/-- Settles O38, by induction on the number of ticks. -/
theorem delayLengthInTicks : Obligations.DelayLengthInTicks := by
  intro s v V k hV hstage hacc
  have h := delayedFor_iterate s.cfg hstage hacc k
  exact ⟨_, _, runCmds_replicate_tick hV k, voiceAt_putVoice_same _ hV, h.stage, h.acc⟩

/-! The commands that leave the LFO and the pitch envelope alone (R170, R191, R194). -/

/-- What only a tick moves: the pitch envelope's value and toggle, the generator and the two
outputs. -/
def Voice.tickValues (V : Voice) : BitVec 15 × Bool × BitVec 8 × BitVec 8 × BitVec 8 :=
  (V.pegCur, V.pegToggle, V.lfoRand, V.lfoPout, V.lfoAout)

/-- What a tick moves and a key-on restarts: the phase, the two accumulators and the stage. -/
def Voice.lfoProgress (V : Voice) : BitVec 16 × BitVec 16 × BitVec 16 × LfoStage :=
  (V.lfoPhase, V.lfoDelayAcc, V.lfoFadeAcc, V.lfoStage)

/-- Two voices with the same LFO and the same pitch-envelope value. -/
def SameLfo (W V : Voice) : Prop :=
  W.tickValues = V.tickValues ∧ W.lfoProgress = V.lfoProgress

theorem SameLfo.refl (V : Voice) : SameLfo V V := ⟨rfl, rfl⟩

theorem sampleVoice_sameLfo (c : Cfg) (V : Voice) : SameLfo (sampleVoice c V) V := by
  rw [sampleVoice_frame]
  exact ⟨rfl, rfl⟩

theorem setCtrlVoice_sameLfo (c : Cfg) (n : Addr) (x : BitVec 7) (V : Voice) :
    SameLfo (setCtrlVoice c n x V) V := by
  unfold setCtrlVoice
  split <;> exact ⟨rfl, rfl⟩

theorem regWrite_sameLfo (c : Cfg) (V : Voice) (a : Addr) (d : Data) :
    SameLfo (regWrite c V a d) V := by
  rcases regWrite_cases c V a d with ⟨o, r, -, hw⟩ | ⟨r, -, hw⟩ | ⟨-, hw⟩
  · rw [hw]
    exact ⟨rfl, rfl⟩
  · rw [hw, voiceRegWrite_runtime]
    exact ⟨rfl, rfl⟩
  · rw [hw]
    exact .refl V

/-- The three things a command can do to the LFO of a voice: tick it, restart it, or nothing. -/
inductive LfoMove (i : Instr) (v : VoiceNum) (V W : Voice) : Prop where
  | tick (hi : i = .tick v)
  | keyOn (hi : i = .keyOn v) (h : W.tickValues = V.tickValues)
  | stay (h : SameLfo W V)

theorem voiceEffect_lfoMove (c : Cfg) {i : Instr} {v : VoiceNum} (V : Voice)
    (hi : cmdVoice i = some v) : LfoMove i v V (voiceEffect c i V) := by
  cases i with
  | tick u => exact .tick (congrArg _ (Option.some.inj hi))
  | keyOn u => exact .keyOn (congrArg _ (Option.some.inj hi)) rfl
  | sample u => exact .stay (sampleVoice_sameLfo c V)
  | wrReg u a d => exact .stay (regWrite_sameLfo c V a d)
  | setCtrl u n x => exact .stay (setCtrlVoice_sameLfo c n x V)
  | keyOff u => exact .stay ⟨rfl, rfl⟩
  | setPbend u x => exact .stay ⟨rfl, rfl⟩
  | _ => exact .stay (.refl V)

theorem exec_lfoMove {i : Instr} {s t : State} {v : VoiceNum} {V W : Voice}
    (h : exec i s = .next t) (hV : voiceAt s v = some V) (hW : voiceAt t v = some W) :
    LfoMove i v V W := by
  by_cases hi : cmdVoice i = some v
  · obtain rfl := Option.some.inj ((exec_voiceAt_named h hi hV).symm.trans hW)
    exact voiceEffect_lfoMove s.cfg V hi
  · obtain rfl := Option.some.inj ((exec_voiceAt_unnamed h hi hV).symm.trans hW)
    exact .stay (.refl V)

/-- Settles O48: of the three moves of an LFO the tick is excluded, and the key-on keeps the values
that only a tick moves. -/
theorem onlyTickAndKeyOnMoveTheLfo : Obligations.OnlyTickAndKeyOnMoveTheLfo := by
  intro i s t v V W h hV hW hne
  cases exec_lfoMove h hV hW with
  | tick hi => exact absurd hi hne
  | keyOn hi hvalues =>
    simp only [Voice.tickValues, Prod.mk.injEq] at hvalues
    exact ⟨hvalues, fun hne' => absurd hi hne'⟩
  | stay hsame =>
    obtain ⟨hvalues, hprogress⟩ := hsame
    simp only [Voice.tickValues, Prod.mk.injEq] at hvalues
    simp only [Voice.lfoProgress, Prod.mk.injEq] at hprogress
    exact ⟨hvalues, fun _ => hprogress⟩

end Sys2Proof.Machine
end

section
/-! PROOFS. The pitch envelope in one tick (R190 to R192): an update on every other call, and what
the update computes, written as the spec does. -/

namespace Sys2Proof.Machine

/-! The target, the increment and the move, once (R190, R192). -/

theorem pegTarget_eq_mul (V : Voice) :
    pegTarget V = (V.pegLevel.get (stageSeg V.pegStage)).toNat * 128 := Nat.shiftLeft_eq _ 7

theorem pegInc_eq_ite (V : Voice) :
    pegInc V =
      if V.pegStage = .sustain ∨ V.pegStage = .ended then 0
      else (V.pegRate.get (stageSeg V.pegStage)).toNat := by
  simp only [pegInc, stageHolds_iff]

/-- In Sustain and End the increment is 0, so the value stays. -/
theorem pegMoved_of_holds {V : Voice} (h : stageHolds V.pegStage = true) :
    pegMoved V = V.pegCur.toNat := by
  rw [pegMoved, pegInc, if_pos h, moveToward_zero]

/-- The move stays between the value and the target, so the 15 bits of `PEG_CUR` hold it. -/
theorem pegMoved_lt (V : Voice) : pegMoved V < 2 ^ 15 := by
  have hbetween : pegMoved V ≤ max V.pegCur.toNat (pegTarget V) := (moveToward_between _ _ _).2
  have htarget := pegTarget_le V
  omega

/-- From a value in range, an increment as long as the whole range reaches every target. -/
theorem pegMoved_of_full_rate {V : Voice} (hcur : V.pegCur.toNat ≤ 0x7F80)
    (hinc : 0x7F80 ≤ pegInc V) : pegMoved V = pegTarget V := by
  have htarget := pegTarget_le V
  exact moveToward_reaches (by omega) (by omega)

/-- The stage code after an advance on a condition, as R192 prints it: Sustain and End are not
left. -/
theorem stageNext_ite_code (reached : Prop) [Decidable reached] (st : EgStage) :
    (if reached then stageNext st else st).code =
      if reached ∧ st ≠ .sustain ∧ st ≠ .ended then st.code + 1 else st.code := by
  simp only [ne_eq, ← not_or, ← stageHolds_iff]
  by_cases hholds : stageHolds st = true
  · rw [stageNext_of_holds hholds, ite_self, if_neg fun h => h.2 hholds]
  · by_cases hreached : reached
    · rw [if_pos hreached, if_pos ⟨hreached, hholds⟩, stageNext_code_of_not_holds hholds]
    · rw [if_neg hreached, if_neg fun h => hreached h.1]

/-! The two cases of a tick (R191). -/

theorem pegTick_of_toggle_clear {V : Voice} (h : V.pegToggle = false) :
    pegTick V = { V with pegToggle := true } := by
  simp only [pegTick, h, Bool.not_false, if_true]

theorem pegTick_of_toggle_set {V : Voice} (h : V.pegToggle = true) :
    pegTick V = pegUpdate { V with pegToggle := false } := by
  simp only [pegTick, h, Bool.not_true, Bool.false_eq_true, if_false]

theorem lfoTick_pegToggle (c : Cfg) (V : Voice) : (lfoTick c V).pegToggle = V.pegToggle := by
  rw [lfoTick_frame]

/-- With the toggle clear the tick makes no update. -/
theorem tickVoice_peg_of_toggle_clear (c : Cfg) {V : Voice} (h : V.pegToggle = false) :
    (tickVoice c V).pegCur = V.pegCur ∧ (tickVoice c V).pegStage = V.pegStage := by
  rw [tickVoice, pegTick_of_toggle_clear ((lfoTick_pegToggle c V).trans h), lfoTick_frame]
  exact ⟨rfl, rfl⟩

/-- With the toggle set the tick makes the update, of a value that the LFO half has not touched. -/
theorem tickVoice_peg_of_toggle_set (c : Cfg) {V : Voice} (h : V.pegToggle = true) :
    (tickVoice c V).pegCur.toNat = pegMoved V ∧
      (tickVoice c V).pegStage =
        if pegMoved V = pegTarget V then stageNext V.pegStage else V.pegStage := by
  rw [tickVoice, pegTick_of_toggle_set ((lfoTick_pegToggle c V).trans h), lfoTick_frame]
  exact ⟨toNat_ofNat_of_lt (pegMoved_lt V), rfl⟩

/-- Settles O39: the toggle decides between no change and one update, whose segment, target and
increment are those of the stage and whose move is `moveToward`. -/
theorem tickMovesThePitchEnvelope : Obligations.TickMovesThePitchEnvelope := by
  intro s v V hV
  refine ⟨tickVoice s.cfg V, exec_tick_some hV, tickVoice_pegToggle s.cfg V,
    tickVoice_peg_of_toggle_clear s.cfg, fun htoggle => ?_⟩
  obtain ⟨hcur, hstage⟩ := tickVoice_peg_of_toggle_set s.cfg htoggle
  refine ⟨stageSeg V.pegStage, pegTarget V, pegInc V, pegMoved V, ?_, pegTarget_eq_mul V,
    pegInc_eq_ite V, rfl, hcur, ?_, fun hholds => ?_, fun hrange => ?_, fun hrange hinc => ?_⟩
  · cases V.pegStage <;> rfl
  · rw [hstage, stageNext_ite_code]
  · exact BitVec.eq_of_toNat_eq (hcur.trans (pegMoved_of_holds ((stageHolds_iff _).mpr hholds)))
  · exact hcur.trans_le (pegMoved_le hrange)
  · exact hcur.trans (pegMoved_of_full_rate hrange hinc)

end Sys2Proof.Machine
end

section
/-! PROOFS. Modulation and pitch (R201 to R208): the mixer, the EG bias, the amplitude modulation,
and the voice and operator pitch, each as the spec prints it. -/

namespace Sys2Proof

theorem Ctrl.mem_all (k : Ctrl) : k ∈ Ctrl.all := by cases k <;> decide

theorem Ctrl.sum_all (f : Ctrl → Nat) :
    (Ctrl.all.map f).sum = f .modWheel + f .foot + f .breath + f .afterTouch := by
  simp only [Ctrl.all, List.map_cons, List.map_nil, List.sum_cons, List.sum_nil, Nat.add_zero,
    Nat.add_assoc]

namespace Machine

/-! The modulation mixer and the EG bias (R201 to R203). -/

theorem scaled_eq (c : Cfg) (V : Voice) (k : Ctrl) :
    scaled c V k =
      (V.mixRaw.get k).toNat * (V.mixRange.get k).toNat * c.mixK / 2 ^ c.mixShift :=
  Nat.shiftRight_eq_div_pow _ _

theorem mixDest_eq (c : Cfg) (V : Voice) (n : Nat) :
    mixDest c V n = min 255
      ((if V.mixAssign.modWheel.getLsbD n then scaled c V .modWheel else 0) +
        (if V.mixAssign.foot.getLsbD n then scaled c V .foot else 0) +
        (if V.mixAssign.breath.getLsbD n then scaled c V .breath else 0) +
        (if V.mixAssign.afterTouch.getLsbD n then scaled c V .afterTouch else 0)) :=
  congrArg (min 255) (Ctrl.sum_all _)

theorem eb_of_assigned (c : Cfg) {V : Voice} (h : ∃ k, (V.mixAssign.get k).getLsbD 2 = true) :
    eb c V = 255 - mixE c V := by
  obtain ⟨k, hk⟩ := h
  exact if_pos (List.any_eq_true.mpr ⟨k, Ctrl.mem_all k, hk⟩)

theorem eb_of_unassigned (c : Cfg) {V : Voice}
    (h : ∀ k, (V.mixAssign.get k).getLsbD 2 = false) : eb c V = 0 := by
  refine if_neg fun hany => ?_
  obtain ⟨k, -, hk⟩ := List.any_eq_true.mp hany
  exact Bool.false_ne_true ((h k).symm.trans hk)

/-- Settles O40: the sum runs over the four sources, and the EG bias tests whether any of them has
bit 2 of its assignment set. -/
theorem mixerSumsAreClamped : Obligations.MixerSumsAreClamped :=
  fun c V => ⟨scaled_eq c V, mixDest_eq c V, rfl, rfl, rfl, eb_of_assigned c, eb_of_unassigned c⟩

/-! Amplitude modulation (R205). -/

theorem amAtt_eq (c : Cfg) (V : Voice) (o : OpNum) :
    amAtt c V o =
      min 255 (V.lfoAout.toNat + eb c V) * tbl c.amsGain (V.ops.get o).ams.toNat / 256 :=
  Nat.shiftRight_eq_div_pow _ 8

/-- Neither factor passes 255, so the product over 256 stays below 255. -/
theorem amAtt_le {c : Cfg} (hc : c.wf = true) (V : Voice) (o : OpNum) : amAtt c V o ≤ 254 := by
  have hprod : min 255 (V.lfoAout.toNat + eb c V) * tbl c.amsGain (V.ops.get o).ams.toNat ≤
      255 * 255 := Nat.mul_le_mul (Nat.min_le_left _ _) (Cfg.wf_amsGain_le hc _)
  rw [amAtt_eq]
  omega

theorem amAtt_of_gain_zero {c : Cfg} {V : Voice} {o : OpNum}
    (h : tbl c.amsGain (V.ops.get o).ams.toNat = 0) : amAtt c V o = 0 := by
  rw [amAtt_eq, h, Nat.mul_zero, Nat.zero_div]

theorem defaultAmsGain_zero : tbl defaultAmsGain 0 = 0 := by decide

/-- Settles O41: the bound is that of the two factors, and an entry 0 of the gains makes the
product 0; the default table has that entry at `AMS` 0. -/
theorem amplitudeModulationIsBounded : Obligations.AmplitudeModulationIsBounded := by
  refine fun c V o hc => ⟨amAtt_eq c V o, amAtt_le hc V o, amAtt_of_gain_zero,
    fun hdefault hams => amAtt_of_gain_zero ?_⟩
  rw [hdefault, hams]
  exact defaultAmsGain_zero

/-! Voice pitch (R204, R206, R207). -/

theorem pbOff_eq (c : Cfg) (V : Voice) :
    pbOff c V = ((V.pbend.toNat : Int) - 8192) / 2 ^ c.pbShift := asr_eq_div _ _

theorem pmod_eq (c : Cfg) (V : Voice) :
    pmod c V = V.lfoPout.toInt * (tbl c.pmsGain V.pms.toNat : Int) / 2 ^ c.pmodShift :=
  asr_eq_div _ _

theorem voicePitch_eq (c : Cfg) (V : Voice) :
    voicePitch c V =
      (V.vpitch.toNat : Int) + pbOff c V + ((V.pegCur.toNat : Int) - 16384) := rfl

/-- A voice whose bend is at the centre is that voice with the centre written. -/
theorem pbOff_of_centre (c : Cfg) {V : Voice} (h : V.pbend = 0x2000) : pbOff c V = 0 := by
  have hsame : V = { V with pbend := 0x2000 } := by rw [← h]
  rw [hsame, pbOff_centre]

theorem pbOff_range {c : Cfg} (hshift : c.pbShift = 3) (V : Voice) :
    -1024 ≤ pbOff c V ∧ pbOff c V ≤ 1023 := by
  have hbend := V.pbend.isLt
  rw [pbOff_eq, hshift]
  omega

theorem voicePitch_range {c : Cfg} (hshift : c.pbShift = 3) {V : Voice}
    (hpeg : V.pegCur.toNat ≤ 0x7F80) : -17408 ≤ voicePitch c V ∧ voicePitch c V ≤ 82814 := by
  have hnote := V.vpitch.isLt
  obtain ⟨hlo, hhi⟩ := pbOff_range hshift V
  rw [voicePitch_eq]
  omega

/-- Settles O42: `asr` is the division that rounds down, and the range of the sum is that of its
three terms. -/
theorem voicePitchAddsBendAndEnvelope : Obligations.VoicePitchAddsBendAndEnvelope :=
  fun c V => ⟨pbOff_eq c V, voicePitch_eq c V, pmod_eq c V, pbOff_of_centre c,
    fun hshift => pbOff_range hshift V, fun hshift hpeg => voicePitch_range hshift hpeg⟩

/-! Operator pitch (R208). -/

/-- What both modes add to their base: detune and pitch modulation. -/
def pitchOffset (c : Cfg) (V : Voice) (o : OpNum) : Int :=
  (V.ops.get o).detune.toInt * (c.detuneStep : Int) + pmod c V

theorem operatorPitch_fixed (c : Cfg) {V : Voice} {o : OpNum} (h : (V.ops.get o).mode = 1) :
    operatorPitch c V o =
      min (max (((V.ops.get o).pitch.toNat : Int) + pitchOffset c V o) 0) 65535 := by
  simp only [operatorPitch, h, if_true, clamp, pitchOffset, Int.add_assoc]

theorem operatorPitch_ratio (c : Cfg) {V : Voice} {o : OpNum} (h : (V.ops.get o).mode = 0) :
    operatorPitch c V o =
      min (max ((V.ops.get o).pitch.toInt + voicePitch c V + pitchOffset c V o) 0) 65535 := by
  have hmode : (V.ops.get o).mode ≠ 1 := h ▸ by decide
  simp only [operatorPitch, if_neg hmode, clamp, pitchOffset, Int.add_assoc]

theorem pitchOffset_frame (c : Cfg) (V : Voice) (o : OpNum) (vp : BitVec 16) (pb : BitVec 14)
    (pc : BitVec 15) :
    pitchOffset c { V with vpitch := vp, pbend := pb, pegCur := pc } o = pitchOffset c V o := rfl

theorem operatorPitch_fixed_frame (c : Cfg) {V : Voice} {o : OpNum} (vp : BitVec 16)
    (pb : BitVec 14) (pc : BitVec 15) (h : (V.ops.get o).mode = 1) :
    operatorPitch c { V with vpitch := vp, pbend := pb, pegCur := pc } o =
      operatorPitch c V o := by
  rw [operatorPitch_fixed c h, operatorPitch_fixed c (by exact h), pitchOffset_frame]

/-- Settles O43: each mode has its base, and what the fixed mode adds to its own reads none of the
three parts of the voice pitch. -/
theorem operatorPitchIsClamped : Obligations.OperatorPitchIsClamped :=
  fun c _ _ => ⟨operatorPitch_fixed c, operatorPitch_ratio c, operatorPitch_fixed_frame c⟩

end Machine

end Sys2Proof
end

section
/-! PROOFS. The phase increment (R208 to R210): it is that of the clamped pitch, and over the pitches
it never falls and doubles with each octave. -/

namespace Sys2Proof.Machine

/-- The clamped pitch as a number (R208). -/
theorem operatorPitch_toNat (c : Cfg) (V : Voice) (o : OpNum) :
    (operatorPitch c V o).toNat ≤ 0xFFFF ∧
      operatorPitch c V o = ((operatorPitch c V o).toNat : Int) := by
  have hlo : 0 ≤ operatorPitch c V o := le_clamp (by decide) _
  have hhi : operatorPitch c V o ≤ 0xFFFF := clamp_le _
  omega

/-- The increment of the pitch `x` before it is wrapped to the accumulator, times 256: the mantissa
of its fraction shifted by its octave (R209). -/
def pitchScaled (c : Cfg) (x : Nat) : Nat := tbl c.freqm (x % 4096) * 2 ^ (x / 4096)

theorem pitchInc_eq_mod {c : Cfg} (hc : c.wf = true) (x : Nat) :
    pitchInc c x = pitchScaled c x / 256 % 2 ^ c.phaseW := by
  obtain ⟨hoct, -, -⟩ := Cfg.wf_freqm hc
  rw [pitchInc, hoct, wrap, Nat.shiftRight_eq_div_pow, Nat.shiftLeft_eq, pitchScaled]

/-- The mantissa of any pitch is 1 to almost 2, in units of 65536. -/
theorem mantissa_range {c : Cfg} (hc : c.wf = true) (x : Nat) :
    65536 ≤ tbl c.freqm (x % 4096) ∧ tbl c.freqm (x % 4096) ≤ 131071 := by
  obtain ⟨-, hrange, -⟩ := Cfg.wf_freqm hc
  exact hrange _ (Nat.mod_lt _ (by decide))

theorem pitchScaled_add_octave (c : Cfg) (x : Nat) :
    pitchScaled c (x + 4096) = 2 * pitchScaled c x := by
  rw [pitchScaled, Nat.add_mod_right, Nat.add_div_right _ (by decide), Nat.pow_succ, pitchScaled]
  ring

/-- In one octave the table rises; and no mantissa reaches twice another, so a later octave lies
above an earlier one. -/
theorem pitchScaled_mono {c : Cfg} (hc : c.wf = true) {x y : Nat} (hxy : x ≤ y) :
    pitchScaled c x ≤ pitchScaled c y := by
  rcases Nat.eq_or_lt_of_le (Nat.div_le_div_right (c := 4096) hxy) with hsame | hlater
  · obtain ⟨-, -, hadj⟩ := Cfg.wf_freqm hc
    have htable : tbl c.freqm (x % 4096) ≤ tbl c.freqm (y % 4096) :=
      tbl_mono_of_adjacent hadj _ _ (by omega) (Nat.mod_lt _ (by decide))
    rw [pitchScaled, pitchScaled, hsame]
    exact Nat.mul_le_mul_right _ htable
  · obtain ⟨-, hx⟩ := mantissa_range hc x
    obtain ⟨hy, -⟩ := mantissa_range hc y
    calc pitchScaled c x
        ≤ (65536 * 2) * 2 ^ (x / 4096) := Nat.mul_le_mul_right _ (by omega)
      _ = 65536 * 2 ^ (x / 4096 + 1) := by rw [Nat.pow_succ, Nat.mul_assoc, Nat.mul_comm 2]
      _ ≤ 65536 * 2 ^ (y / 4096) :=
          Nat.mul_le_mul_left _ (Nat.pow_le_pow_right (by decide) hlater)
      _ ≤ pitchScaled c y := Nat.mul_le_mul_right _ hy

/-- The highest octave is 15. -/
theorem pitchScaled_lt {c : Cfg} (hc : c.wf = true) {x : Nat} (hx : x ≤ 0xFFFF) :
    pitchScaled c x < 2 ^ 32 := by
  obtain ⟨-, hmantissa⟩ := mantissa_range hc x
  calc pitchScaled c x
      ≤ 131071 * 2 ^ 15 :=
        Nat.mul_le_mul hmantissa (Nat.pow_le_pow_right (by decide) (by omega))
    _ < 2 ^ 32 := by decide

theorem pitchScaled_div_lt {c : Cfg} (hc : c.wf = true) {x : Nat} (hx : x ≤ 0xFFFF) :
    pitchScaled c x / 256 < 2 ^ 24 := by
  have hscaled := pitchScaled_lt hc hx
  omega

/-- An accumulator of 24 bits holds every increment unwrapped. -/
theorem pitchInc_eq_div {c : Cfg} (hc : c.wf = true) (hwidth : 24 ≤ c.phaseW) {x : Nat}
    (hx : x ≤ 0xFFFF) : pitchInc c x = pitchScaled c x / 256 := by
  rw [pitchInc_eq_mod hc]
  exact Nat.mod_eq_of_lt
    ((pitchScaled_div_lt hc hx).trans_le (Nat.pow_le_pow_right (by decide) hwidth))

/-- Settles O44: unwrapped, the increment is `pitchScaled` over 256, which is monotone and whose
dividend doubles with each octave; the division may drop one half. -/
theorem phaseIncrementDoublesPerOctave : Obligations.PhaseIncrementDoublesPerOctave := by
  intro c hc
  refine ⟨fun V o => ?_, fun x y hwidth hxy hy => ?_⟩
  · obtain ⟨hle, hcast⟩ := operatorPitch_toNat c V o
    exact ⟨(operatorPitch c V o).toNat, hle, hcast, rfl, pitchInc_eq_mod hc _⟩
  · have hx : x ≤ 0xFFFF := hxy.trans hy
    have hincx := pitchInc_eq_div hc hwidth hx
    have hincy := pitchInc_eq_div hc hwidth hy
    refine ⟨hincx, ?_, hincy.trans_lt (pitchScaled_div_lt hc hy), fun hnext => ?_⟩
    · rw [hincx, hincy]
      exact Nat.div_le_div_right (pitchScaled_mono hc hxy)
    · rw [hincx, pitchInc_eq_div hc hwidth hnext, pitchScaled_add_octave]
      omega

end Sys2Proof.Machine
end

section
/-! PROOFS. The firmware's calls that write registers (R221, R224): a run of commands on one voice
is their effects in a row, and a run of register writes is the registers written in a row. -/

namespace Sys2Proof

/-- The second of two updates of an operator stands. -/
theorem PerOp.set_set {α : Type} (p : PerOp α) (o : OpNum) (x y : α) :
    (p.set o x).set o y = p.set o y := by cases o <;> rfl

/-- Updating each operator in turn updates every operator from its own value. -/
theorem PerOp.get_foldl_set_all {α : Type} (f : OpNum → α → α) (p : PerOp α) (o : OpNum) :
    (OpNum.all.foldl (fun q i => q.set i (f i (q.get i))) p).get o = f o (p.get o) := by
  cases o <;> rfl

namespace Machine

/-! Runs of commands on one voice. -/

/-- What a list of commands does to the voice record they name. -/
def voiceEffects (c : Cfg) (l : List Instr) (V : Voice) : Voice :=
  l.foldl (fun W i => voiceEffect c i W) V

theorem voiceEffects_append (c : Cfg) (l m : List Instr) (V : Voice) :
    voiceEffects c (l ++ m) V = voiceEffects c m (voiceEffects c l V) := List.foldl_append

/-- Commands that all name voice `v`, none of them a read, replace its record and nothing else. -/
theorem runCmds_on_voice {l : List Instr} {s : State} {v : VoiceNum} {V : Voice}
    (hl : ∀ i ∈ l, cmdVoice i = some v ∧ isReadCmd i = false) (hV : voiceAt s v = some V) :
    runCmds l s = .next (putVoice s v (voiceEffects s.cfg l V)) := by
  induction l generalizing s V with
  | nil => exact congrArg _ (putVoice_self hV).symm
  | cons i l ih =>
    obtain ⟨⟨hi, hread⟩, hrest⟩ := List.forall_mem_cons.mp hl
    rw [runCmds_cons_next _ (exec_on_voice hi hread hV), ih hrest (voiceAt_putVoice_same _ hV),
      putVoice_putVoice, putVoice_cfg]
    rfl

/-! Register writes in a row. -/

theorem voiceEffect_wrOp (c : Cfg) (v : VoiceNum) (o : OpNum) (r : OpReg) (d : Data) (V : Voice) :
    voiceEffect c (wrOp v o r d) V =
      { V with ops := V.ops.set o (opRegWrite c (V.ops.get o) r d) } := regWrite_opRegAddr c V o r d

theorem voiceEffect_wrVoice (c : Cfg) (v : VoiceNum) (r : VoiceReg) (d : Data) (V : Voice) :
    voiceEffect c (wrVoice v r d) V = voiceRegWrite V r d := regWrite_voiceRegAddr c V r d

/-- Writes to registers of one operator change its record alone. -/
theorem voiceEffects_wrOps (c : Cfg) (v : VoiceNum) (o : OpNum) (writes : List (OpReg × Data))
    (V : Voice) :
    voiceEffects c (writes.map fun w => wrOp v o w.1 w.2) V =
      { V with
        ops := V.ops.set o (writes.foldl (fun p w => opRegWrite c p w.1 w.2) (V.ops.get o)) } := by
  induction writes generalizing V with
  | nil => exact congrArg (fun ops => { V with ops := ops }) (PerOp.set_get_self V.ops o).symm
  | cons w writes ih =>
    rw [List.map_cons, voiceEffects, List.foldl_cons, ← voiceEffects, voiceEffect_wrOp, ih]
    simp only [PerOp.get_set_same, PerOp.set_set, List.foldl_cons]

/-- Writes to voice registers are `voiceRegWrite` in a row. -/
theorem voiceEffects_wrVoices (c : Cfg) (v : VoiceNum) (writes : List (VoiceReg × Data))
    (V : Voice) :
    voiceEffects c (writes.map fun w => wrVoice v w.1 w.2) V =
      writes.foldl (fun W w => voiceRegWrite W w.1 w.2) V := by
  induction writes generalizing V with
  | nil => rfl
  | cons w writes ih =>
    rw [List.map_cons, voiceEffects, List.foldl_cons, ← voiceEffects, voiceEffect_wrVoice, ih]
    rfl

/-- Command lists that each update one operator's record, operator by operator. -/
theorem voiceEffects_perOp {c : Cfg} {cmds : OpNum → List Instr} {f : OpNum → OpRec → OpRec}
    (h : ∀ o V, voiceEffects c (cmds o) V = { V with ops := V.ops.set o (f o (V.ops.get o)) })
    (l : List OpNum) (V : Voice) :
    voiceEffects c (l.map cmds).flatten V =
      { V with ops := l.foldl (fun ops o => ops.set o (f o (ops.get o))) V.ops } := by
  induction l generalizing V with
  | nil => rfl
  | cons o l ih =>
    rw [List.map_cons, List.flatten_cons, voiceEffects_append, h, ih, List.foldl_cons]

/-! `programVoice` (R221). -/

/-- The 14 registers of an operator that a patch writes, in `programOp`'s order. -/
def opPatchWrites (q : PatchOp) : List (OpReg × Data) :=
  [(.pitch, q.pitch), (.mode, q.mode), (.detune, q.detune), (.ams, q.ams), (.rs, q.rs),
   (.egRate .attack, q.egRate.attack), (.egRate .decay1, q.egRate.decay1),
   (.egRate .decay2, q.egRate.decay2), (.egRate .release, q.egRate.release),
   (.egLevel .attack, q.egLevel.attack), (.egLevel .decay1, q.egLevel.decay1),
   (.egLevel .decay2, q.egLevel.decay2), (.egLevel .release, q.egLevel.release),
   (.olatt, q.olatt)]

theorem programOp_eq_map (v : VoiceNum) (o : OpNum) (q : PatchOp) :
    programOp v o q = (opPatchWrites q).map fun w => wrOp v o w.1 w.2 := rfl

/-- The 18 voice registers that a patch writes, in `programCommon`'s order. -/
def voicePatchWrites (p : Patch) : List (VoiceReg × Data) :=
  [(.alg, p.alg), (.fbl, p.fbl), (.pms, p.pms),
   (.pegRate .attack, p.pegRate.attack), (.pegRate .decay1, p.pegRate.decay1),
   (.pegRate .decay2, p.pegRate.decay2), (.pegRate .release, p.pegRate.release),
   (.pegLevel .attack, p.pegLevel.attack), (.pegLevel .decay1, p.pegLevel.decay1),
   (.pegLevel .decay2, p.pegLevel.decay2), (.pegLevel .release, p.pegLevel.release),
   (.lfoInc, p.lfoInc), (.lfoDelayInc, p.lfoDelayInc), (.lfoFadeInc, p.lfoFadeInc),
   (.lfoPmd, p.lfoPmd), (.lfoAmd, p.lfoAmd), (.lfoWave, p.lfoWave), (.lfoSync, p.lfoSync)]

theorem programCommon_eq_map (v : VoiceNum) (p : Patch) :
    programCommon v p = (voicePatchWrites p).map fun w => wrVoice v w.1 w.2 := rfl

/-- An operator record with the patch's values in its registers, its runtime state as before. -/
def patchedOp (c : Cfg) (q : PatchOp) (r : OpRec) : OpRec :=
  let code := fun d : Data => d.toNat % 2 ^ c.egCodeW
  { r with
    pitch := q.pitch
    mode := q.mode.setWidth 1
    detune := q.detune.setWidth 4
    olatt := q.olatt.setWidth 8
    ams := q.ams.setWidth 2
    rs := q.rs.setWidth 3
    egRate := ⟨code q.egRate.attack, code q.egRate.decay1, code q.egRate.decay2,
      code q.egRate.release⟩
    egLevel := ⟨code q.egLevel.attack, code q.egLevel.decay1, code q.egLevel.decay2,
      code q.egLevel.release⟩ }

theorem foldl_opPatchWrites (c : Cfg) (q : PatchOp) (r : OpRec) :
    (opPatchWrites q).foldl (fun p w => opRegWrite c p w.1 w.2) r = patchedOp c q r := rfl

/-- Every register a patch writes is overwritten. -/
theorem patchedOp_idem (c : Cfg) (q : PatchOp) (r : OpRec) :
    patchedOp c q (patchedOp c q r) = patchedOp c q r := rfl

/-- The algorithm after a write: data above 31 is ignored (R33). -/
def patchedAlg (d : Data) (alg : BitVec 5) : BitVec 5 :=
  if d.toNat ≤ 31 then d.setWidth 5 else alg

theorem patchedAlg_idem (d : Data) (alg : BitVec 5) :
    patchedAlg d (patchedAlg d alg) = patchedAlg d alg := by
  unfold patchedAlg
  split <;> rfl

theorem voiceRegWrite_alg (V : Voice) (d : Data) :
    voiceRegWrite V .alg d = { V with alg := patchedAlg d V.alg } := by
  simp only [voiceRegWrite, patchedAlg]
  split <;> rfl

/-- The six operator records with the patch's values. -/
def patchedOps (c : Cfg) (p : Patch) (ops : PerOp OpRec) : PerOp OpRec :=
  OpNum.all.foldl (fun ops o => ops.set o (patchedOp c (p.ops.get o) (ops.get o))) ops

theorem patchedOps_get (c : Cfg) (p : Patch) (ops : PerOp OpRec) (o : OpNum) :
    (patchedOps c p ops).get o = patchedOp c (p.ops.get o) (ops.get o) :=
  PerOp.get_foldl_set_all (fun o => patchedOp c (p.ops.get o)) ops o

theorem patchedOps_idem (c : Cfg) (p : Patch) (ops : PerOp OpRec) :
    patchedOps c p (patchedOps c p ops) = patchedOps c p ops :=
  PerOp.ext_get fun o => by simp only [patchedOps_get, patchedOp_idem]

/-- A voice record with the patch's values in the voice registers a patch has, and nothing else
changed. -/
def patchedCommon (p : Patch) (V : Voice) : Voice :=
  { V with
    alg := patchedAlg p.alg V.alg
    fbl := p.fbl.setWidth 3
    pms := p.pms.setWidth 3
    pegRate := p.pegRate
    pegLevel := ⟨p.pegLevel.attack.setWidth 8, p.pegLevel.decay1.setWidth 8,
      p.pegLevel.decay2.setWidth 8, p.pegLevel.release.setWidth 8⟩
    lfoInc := p.lfoInc
    lfoDelayInc := p.lfoDelayInc
    lfoFadeInc := p.lfoFadeInc
    lfoPmd := p.lfoPmd.setWidth 8
    lfoAmd := p.lfoAmd.setWidth 8
    lfoWave := p.lfoWave.setWidth 3
    lfoSync := p.lfoSync.setWidth 1 }

theorem foldl_voicePatchWrites (p : Patch) (V : Voice) :
    (voicePatchWrites p).foldl (fun W w => voiceRegWrite W w.1 w.2) V = patchedCommon p V := by
  rw [voicePatchWrites, List.foldl_cons, voiceRegWrite_alg]
  simp only [List.foldl_cons, List.foldl_nil, voiceRegWrite, PerSeg.set, patchedCommon]

/-- The voice record that `programVoice` leaves. -/
def patchedVoice (c : Cfg) (p : Patch) (V : Voice) : Voice :=
  patchedCommon p { V with ops := patchedOps c p V.ops }

theorem patchedVoice_idem (c : Cfg) (p : Patch) (V : Voice) :
    patchedVoice c p (patchedVoice c p V) = patchedVoice c p V := by
  simp only [patchedVoice, patchedCommon, patchedOps_idem, patchedAlg_idem]

theorem voiceEffects_programVoice (c : Cfg) (v : VoiceNum) (p : Patch) (V : Voice) :
    voiceEffects c (programVoice v p) V = patchedVoice c p V := by
  have hop : ∀ o W, voiceEffects c (programOp v o (p.ops.get o)) W =
      { W with ops := W.ops.set o (patchedOp c (p.ops.get o) (W.ops.get o)) } := fun o W => by
    rw [programOp_eq_map, voiceEffects_wrOps, foldl_opPatchWrites]
  rw [programVoice, voiceEffects_append, voiceEffects_perOp hop, programCommon_eq_map,
    voiceEffects_wrVoices, foldl_voicePatchWrites]
  rfl

theorem programVoice_length (v : VoiceNum) (p : Patch) : (programVoice v p).length = 102 := rfl

/-- `programVoice` names one voice and reads nothing. -/
theorem programVoice_on_voice (v : VoiceNum) (p : Patch) :
    ∀ i ∈ programVoice v p, cmdVoice i = some v ∧ isReadCmd i = false := by
  simp only [programVoice, programOp_eq_map, programCommon_eq_map, List.mem_append,
    List.mem_flatten, List.mem_map]
  rintro i (⟨_, ⟨o, -, rfl⟩, hi⟩ | ⟨w, -, rfl⟩)
  · obtain ⟨w, -, rfl⟩ := List.mem_map.mp hi
    exact ⟨rfl, rfl⟩
  · exact ⟨rfl, rfl⟩

theorem runCmds_programVoice {s : State} {v : VoiceNum} {V : Voice} (p : Patch)
    (hV : voiceAt s v = some V) :
    runCmds (programVoice v p) s = .next (putVoice s v (patchedVoice s.cfg p V)) := by
  rw [runCmds_on_voice (programVoice_on_voice v p) hV, voiceEffects_programVoice]

/-- Settles O50: the run puts `patchedVoice`, whose registers are the patch's, and putting it twice
is putting it once. -/
theorem programVoiceIsIdempotent : Obligations.ProgramVoiceIsIdempotent := by
  intro s v V p hV
  have hrun := runCmds_programVoice p hV
  refine ⟨programVoice_length v p, patchedVoice s.cfg p V, hrun, ?_,
    patchedOps_get s.cfg p V.ops, rfl⟩
  rw [runCmds_append_next _ hrun, runCmds_programVoice p (voiceAt_putVoice_same _ hV), putVoice_cfg,
    patchedVoice_idem, putVoice_putVoice]

/-! `gateOn` (R224). -/

/-- The voice record that the writes of `gateOn` leave before its `KEY_ON`. -/
def pitchedVoice (c : Cfg) (vpitch : Data) (olatt : PerOp Data) (V : Voice) : Voice :=
  { V with
    vpitch := vpitch
    ops := OpNum.all.foldl
      (fun ops o => ops.set o (opRegWrite c (ops.get o) .olatt (olatt.get o))) V.ops }

theorem pitchedVoice_ops_get (c : Cfg) (n : Data) (ol : PerOp Data) (V : Voice) (o : OpNum) :
    (pitchedVoice c n ol V).ops.get o = { V.ops.get o with olatt := (ol.get o).setWidth 8 } :=
  PerOp.get_foldl_set_all (fun o p => opRegWrite c p .olatt (ol.get o)) V.ops o

theorem voiceEffects_gateOn (c : Cfg) (v : VoiceNum) (n : Data) (ol : PerOp Data) (V : Voice) :
    voiceEffects c (gateOn v n ol) V = keyOnVoice (pitchedVoice c n ol V) := by
  have hol : ∀ o W, voiceEffects c [wrOp v o .olatt (ol.get o)] W =
      { W with ops := W.ops.set o (opRegWrite c (W.ops.get o) .olatt (ol.get o)) } :=
    fun o W => voiceEffect_wrOp c v o .olatt (ol.get o) W
  calc voiceEffects c (gateOn v n ol) V
      = keyOnVoice (voiceEffects c (OpNum.all.map fun o => [wrOp v o .olatt (ol.get o)]).flatten
          (voiceEffect c (wrVoice v .vpitch n) V)) := rfl
    _ = keyOnVoice (pitchedVoice c n ol V) := by
        rw [voiceEffects_perOp (f := fun o p => opRegWrite c p .olatt (ol.get o)) hol,
          voiceEffect_wrVoice]
        rfl

/-- `gateOn` names one voice and reads nothing. -/
theorem gateOn_on_voice (v : VoiceNum) (n : Data) (ol : PerOp Data) :
    ∀ i ∈ gateOn v n ol, cmdVoice i = some v ∧ isReadCmd i = false := by
  simp only [gateOn, List.cons_append, List.mem_cons, List.mem_append, List.mem_map]
  rintro i (rfl | ⟨o, -, rfl⟩ | rfl | hi)
  · exact ⟨rfl, rfl⟩
  · exact ⟨rfl, rfl⟩
  · exact ⟨rfl, rfl⟩
  · cases hi

/-- Settles O51: the run puts the record that `KEY_ON` makes of the written one. -/
theorem gateOnWritesThenKeysOn : Obligations.GateOnWritesThenKeysOn := by
  intro s v V n ol hV
  refine ⟨keyOnVoice (pitchedVoice s.cfg n ol V), ?_, fun o => ?_, rfl⟩
  · rw [runCmds_on_voice (gateOn_on_voice v n ol) hV, voiceEffects_gateOn]
  · have hkey : (keyOnVoice (pitchedVoice s.cfg n ol V)).ops.get o =
        { (pitchedVoice s.cfg n ol V).ops.get o with egStage := .attack } := PerOp.get_map _ _ o
    rw [hkey, pitchedVoice_ops_get]

end Machine

end Sys2Proof
end

section
/-! PROOFS. The firmware's `sample()` (R228, R89): one turn strobes a voice and reads its `OUT` and
`COMPLETE`, and a list of turns samples each voice once. -/

namespace Sys2Proof.Machine

/-! The sum of a sampled voice fits its width, and its two reads (R155, R43, R131). -/

theorem fitsSigned_zero (n : Nat) : fitsSigned n 0 = true :=
  (fitsSigned_iff n 0).mpr ⟨neg_nonpos_of_nonneg (by positivity), by positivity⟩

theorem foldl_seqEval_sum_fits {c : Cfg} (hacc : 1 ≤ c.accW) (l : List OpNum) {V : Voice}
    (h : fitsSigned c.accW V.sum = true) :
    fitsSigned c.accW (l.foldl (seqEval c) V).sum = true := by
  induction l generalizing V with
  | nil => exact h
  | cons o l ih =>
    refine ih ?_
    rw [seqEval, opEval_eq]
    dsimp only
    split
    · exact swrap_fits hacc _
    · exact h

theorem sampleVoice_sum_fits {c : Cfg} (hacc : 1 ≤ c.accW) (V : Voice) :
    fitsSigned c.accW (sampleVoice c V).sum = true :=
  foldl_seqEval_sum_fits hacc evalOrder (fitsSigned_zero c.accW)

/-- `DOUT` holds the sampled `OUT` as a signed number. -/
theorem statusRead_out_sampleVoice {c : Cfg} (hc : c.wf = true) (V : Voice) :
    (statusRead c (sampleVoice c V) .out).toInt = (sampleVoice c V).out := by
  obtain ⟨-, -, -, -, hacc, hacc32⟩ := Cfg.wf_widths hc
  exact toInt_ofInt_of_fits hacc32 (sampleVoice_sum_fits hacc V)

theorem statusRead_complete (c : Cfg) (V : Voice) :
    statusRead c V .complete = if complete V then 1 else 0 := rfl

theorem statusRead_complete_eq_one_iff (c : Cfg) (V : Voice) :
    statusRead c V .complete = 1 ↔ ∀ o, (V.ops.get o).egStage = .ended := by
  have hone : statusRead c V .complete = 1 ↔ complete V = true := by
    cases h : complete V <;> simp [statusRead_complete, h]
  rw [hone, complete_iff]
  exact forall_congr' fun o => EgStage.code_eq_five_iff _

theorem statusRead_complete_eq_zero_or_one (c : Cfg) (V : Voice) :
    statusRead c V .complete = 0 ∨ statusRead c V .complete = 1 := by
  rw [statusRead_complete]
  split
  · exact .inr rfl
  · exact .inl rfl

/-! One turn. -/

/-- A strobe and a status read replace the voice record and `DOUT`. -/
theorem runCmds_sample_read {s : State} {v : VoiceNum} {V : Voice} (r : StatusReg)
    (hV : voiceAt s v = some V) :
    runCmds [.sample v, .rdReg v (statusRegAddr r)] s =
      .next (putDout (putVoice s v (sampleVoice s.cfg V))
        (statusRead s.cfg (sampleVoice s.cfg V) r)) := by
  rw [runCmds_cons_next _ (exec_sample_some hV),
    runCmds_cons_next _ (exec_rdReg_some _ (voiceAt_putVoice_same _ hV)), regRead_statusRegAddr]
  rfl

/-- The state after a turn for voice `v` with record `V`: the voice sampled, and `COMPLETE` of the
sampled voice on `DOUT`. -/
def afterTurn (s : State) (v : VoiceNum) (V : Voice) : State :=
  putDout (putVoice s v (sampleVoice s.cfg V)) (statusRead s.cfg (sampleVoice s.cfg V) .complete)

theorem voiceAt_afterTurn_same {s : State} {v : VoiceNum} {V : Voice} (hV : voiceAt s v = some V) :
    voiceAt (afterTurn s v V) v = some (sampleVoice s.cfg V) := voiceAt_putVoice_same _ hV

theorem voiceAt_afterTurn_ne {s : State} {u v : VoiceNum} (V : Voice) (h : u ≠ v) :
    voiceAt (afterTurn s v V) u = voiceAt s u := by
  rw [afterTurn, voiceAt_putDout, voiceAt_putVoice_ne _ h]

theorem runCmds_sampleOne {s : State} {v : VoiceNum} {V : Voice} (hV : voiceAt s v = some V) :
    runCmds (sampleOne v) s = .next (afterTurn s v V) := by
  have hW := voiceAt_putVoice_same (sampleVoice s.cfg V) hV
  have hread := exec_rdReg_some (statusRegAddr .complete)
    ((voiceAt_putDout _ (statusRead s.cfg (sampleVoice s.cfg V) .out) v).trans hW)
  calc runCmds (sampleOne v) s
      = runCmds ([.sample v, .rdReg v (statusRegAddr .out)] ++
          [.rdReg v (statusRegAddr .complete)]) s := rfl
    _ = .next (afterTurn s v V) := by
        rw [runCmds_append_next _ (runCmds_sample_read .out hV), runCmds_cons_next _ hread,
          regRead_statusRegAddr]
        rfl

/-! The whole call. -/

/-- The state `t` has every voice of `l` sampled once from its record in `s`, and the others as in
`s`. -/
structure SampledOnce (s : State) (l : List VoiceNum) (t : State) : Prop where
  cfg : t.cfg = s.cfg
  sampled : ∀ v ∈ l, ∀ V, voiceAt s v = some V → voiceAt t v = some (sampleVoice s.cfg V)
  kept : ∀ v, v ∉ l → voiceAt t v = voiceAt s v

theorem SampledOnce.nil (s : State) : SampledOnce s [] s :=
  ⟨rfl, fun _ h => absurd h List.not_mem_nil, fun _ _ => rfl⟩

/-- A turn for `v` and then the rest, of which `v` is no member. -/
theorem SampledOnce.cons {s t : State} {v : VoiceNum} {l : List VoiceNum} {V : Voice}
    (hV : voiceAt s v = some V) (hv : v ∉ l) (h : SampledOnce (afterTurn s v V) l t) :
    SampledOnce s (v :: l) t := by
  refine ⟨h.cfg, fun u hu U hU => ?_, fun u hu => ?_⟩
  · rcases List.mem_cons.mp hu with rfl | hul
    · obtain rfl := Option.some.inj (hV.symm.trans hU)
      exact (h.kept u hv).trans (voiceAt_afterTurn_same hV)
    · have hne : u ≠ v := fun he => hv (he ▸ hul)
      exact h.sampled u hul U ((voiceAt_afterTurn_ne V hne).trans hU)
  · have hne : u ≠ v := List.ne_of_not_mem_cons hu
    exact (h.kept u (List.not_mem_of_not_mem_cons hu)).trans (voiceAt_afterTurn_ne V hne)

theorem runCmds_sampleCall {l : List VoiceNum} {s : State} (hl : l.Nodup)
    (hpresent : ∀ v ∈ l, ∃ V, voiceAt s v = some V) :
    ∃ t, runCmds (sampleCall l) s = .next t ∧ SampledOnce s l t := by
  induction l generalizing s with
  | nil => exact ⟨s, rfl, .nil s⟩
  | cons v l ih =>
    obtain ⟨hv, hl'⟩ := List.nodup_cons.mp hl
    obtain ⟨⟨V, hV⟩, hrest⟩ := List.forall_mem_cons.mp hpresent
    have hpresent' : ∀ u ∈ l, ∃ U, voiceAt (afterTurn s v V) u = some U := fun u hu => by
      have hne : u ≠ v := fun he => hv (he ▸ hu)
      rw [voiceAt_afterTurn_ne V hne]
      exact hrest u hu
    obtain ⟨t, hrun, hsampled⟩ := ih hl' hpresent'
    exact ⟨t, (runCmds_append_next _ (runCmds_sampleOne hV)).trans hrun, .cons hV hv hsampled⟩

/-- In a well-formed state every voice number below `NVOICE` names a voice. -/
theorem exists_voiceAt_of_wf {s : State} (hs : s.wf = true) {v : VoiceNum}
    (hv : v.toNat < s.cfg.nvoice) : ∃ V, voiceAt s v = some V := by
  obtain ⟨-, hlen, -⟩ := s.wf_iff.mp hs
  exact ⟨s.voices[v.toNat], voiceAt_eq_some.mpr ⟨hv, List.getElem?_eq_getElem (hlen ▸ hv)⟩⟩

/-- Settles O52: a turn by its two reads; in the call, the turns before a voice leave its record, so
its own turn reads what one `SAMPLE` from the start gives. -/
theorem hostReadsTheSample : Obligations.HostReadsTheSample := by
  refine ⟨fun s v V hs hV => ?_, fun s sounding hs hnodup hrange => ?_⟩
  · obtain ⟨hcfg, -, -⟩ := s.wf_iff.mp hs
    exact ⟨sampleVoice s.cfg V, _, _, exec_sample_some hV, runCmds_sample_read .out hV,
      statusRead_out_sampleVoice hcfg V, runCmds_sampleOne hV,
      statusRead_complete_eq_one_iff _ _, statusRead_complete_eq_zero_or_one _ _⟩
  · obtain ⟨hcfg, -, -⟩ := s.wf_iff.mp hs
    have hpresent : ∀ v ∈ sounding, ∃ V, voiceAt s v = some V :=
      fun v hv => exists_voiceAt_of_wf hs (hrange v hv)
    obtain ⟨t, hrun, ht⟩ := runCmds_sampleCall hnodup hpresent
    refine ⟨t, hrun, ht.cfg, ht.kept, ?_⟩
    rintro before v later rfl
    obtain ⟨hbefore, -, hdisjoint⟩ := List.nodup_append.mp hnodup
    have hv : v ∉ before := fun h => hdisjoint v h v List.mem_cons_self rfl
    have hmem : v ∈ before ++ v :: later := List.mem_append_right _ List.mem_cons_self
    obtain ⟨V, hV⟩ := hpresent v hmem
    obtain ⟨u, hturns, hu⟩ := runCmds_sampleCall hbefore
      fun w hw => hpresent w (List.mem_append_left _ hw)
    have hVu : voiceAt u v = some V := (hu.kept v hv).trans hV
    refine ⟨sampleVoice s.cfg V, _, _, exec_sample_some hV, ht.sampled v hmem V hV,
      (runCmds_append_next _ hturns).trans (runCmds_sample_read .out hVu), ?_,
      (runCmds_append_next _ hturns).trans (runCmds_sampleOne hVu), ?_⟩
    · rw [putDout_dout, hu.cfg]
      exact statusRead_out_sampleVoice hcfg V
    · rw [afterTurn, putDout_dout, hu.cfg]
      exact ⟨statusRead_complete_eq_one_iff _ _, statusRead_complete_eq_zero_or_one _ _⟩

end Sys2Proof.Machine
end

section
/-! PROOFS. What every command and every step keeps (R10, R252): packaged once for a property of the
voice records, and once for a property of the state along a run. With it well-formedness: after
reset, under each kind of command, and under a step. -/

namespace Sys2Proof.Machine

/-! Invariants, packaged. -/

/-- A property of every voice record is kept by a command whose effect keeps it. -/
theorem exec_keeps_all_voices {P : Voice → Prop} {i : Instr} {s t : State}
    (h : exec i s = .next t) (heffect : ∀ V, P V → P (voiceEffect s.cfg i V))
    (hs : ∀ V ∈ s.voices, P V) : ∀ V ∈ t.voices, P V := by
  rcases exec_cases h with ⟨rfl, -⟩ | ⟨v, a, V, -, -, rfl⟩ | ⟨v, V, -, -, hV, rfl⟩
  · exact hs
  · exact hs
  · intro W hW
    rcases mem_putVoice hW with rfl | hold
    · exact heffect V (hs V (voiceAt_mem hV))
    · exact hs W hold

/-- A property of the state that each command of a list keeps holds after the list. -/
theorem runCmds_keeps {P : State → Prop} {l : List Instr}
    (hstep : ∀ i ∈ l, ∀ s t, P s → exec i s = .next t → P t) {s : State} (hs : P s) :
    ∃ t, runCmds l s = .next t ∧ P t := by
  induction l generalizing s with
  | nil => exact ⟨s, rfl, hs⟩
  | cons i l ih =>
    obtain ⟨hi, hl⟩ := List.forall_mem_cons.mp hstep
    obtain ⟨t, ht⟩ := exec_total i s
    obtain ⟨u, hrun, hu⟩ := ih hl (hi s t hs ht)
    exact ⟨u, (runCmds_cons_next l ht).trans hrun, hu⟩

/-! The reset state. -/

theorem OpRec.reset_wf {c : Cfg} (hc : c.wf = true) : (OpRec.reset c).wf c = true := by
  have hcode : 2 ^ c.egCodeW = 64 := by rw [Cfg.wf_egCodeW hc]; rfl
  have hcur : (OpRec.reset c).egCur < 2 ^ c.egW := Nat.sub_lt (Nat.two_pow_pos _) Nat.one_pos
  refine (OpRec.wf_iff _ _).mpr ⟨fun g => ?_, fun g => ?_, Nat.two_pow_pos _, hcur⟩
  · rw [OpRec.reset, PerSeg.get_const]
    exact Nat.two_pow_pos _
  · rw [OpRec.reset, PerSeg.get_const, hcode]
    decide

theorem Voice.reset_wf {c : Cfg} (hc : c.wf = true) : (Voice.reset c).wf c = true := by
  have hfits := fitsSigned_zero c.accW
  refine (Voice.wf_iff _ _).mpr
    ⟨fun o => ?_, hfits, hfits, hfits, hfits, rfl, rfl, Nat.le_of_ble_eq_true rfl, rfl⟩
  rw [Voice.reset_ops_get]
  exact OpRec.reset_wf hc

/-- Every record of the reset state is the reset record. -/
theorem eq_reset_of_mem {c : Cfg} {V : Voice} (h : V ∈ (State.resetWith c).voices) :
    V = Voice.reset c := List.eq_of_mem_replicate h

theorem State.resetWith_wf {c : Cfg} (hc : c.wf = true) : (State.resetWith c).wf = true :=
  (State.wf_iff _).mpr
    ⟨hc, List.length_replicate, fun _ hV => eq_reset_of_mem hV ▸ Voice.reset_wf hc⟩

/-! Operator records. -/

/-- A write narrows a code to `EG_CODE_W` bits and leaves the runtime state. -/
theorem opRegWrite_wf {c : Cfg} {p : OpRec} (hp : p.wf c = true) (r : OpReg) (d : Data) :
    (opRegWrite c p r d).wf c = true := by
  obtain ⟨-, -, hphase, hcur⟩ := (p.wf_iff c).mp hp
  obtain ⟨hphase', hcur', -⟩ := opRegWrite_runtime c p r d
  have hval : ∀ r', opRegVal (opRegWrite c p r d) r' < 2 ^ opRegWidth c r' := fun r' => by
    rcases eq_or_ne r' r with rfl | hne
    · rw [opRegVal_opRegWrite_same]
      exact Nat.mod_lt _ (Nat.two_pow_pos _)
    · rw [opRegVal_opRegWrite_ne c p d hne]
      exact opRegVal_lt hp r'
  exact (OpRec.wf_iff _ _).mpr ⟨fun g => hval (.egRate g), fun g => hval (.egLevel g),
    hphase' ▸ hphase, hcur' ▸ hcur⟩

theorem operatorClocked_wf {c : Cfg} (hc : c.wf = true) {V : Voice} {o : OpNum}
    (hp : (V.ops.get o).wf c = true) : (operatorClocked c V o).wf c = true := by
  obtain ⟨-, -, -, hegW, -, -⟩ := Cfg.wf_widths hc
  obtain ⟨hrate, hlevel, -, hcur⟩ := ((V.ops.get o).wf_iff c).mp hp
  exact (OpRec.wf_iff _ _).mpr ⟨hrate, hlevel, wrap_lt _ _, egMoved_lt hegW hcur⟩

/-! Commands other than `SAMPLE`. -/

/-- A voice stays well-formed where its router registers do not move, its operator records and
`PEG_CUR` being in range. -/
theorem Voice.wf_of_router_eq {c : Cfg} {V W : Voice} (hV : V.wf c = true)
    (hrouter : W.router = V.router) (hops : ∀ o, (W.ops.get o).wf c = true)
    (hpeg : W.pegCur.toNat ≤ 0x7F80) : W.wf c = true := by
  obtain ⟨-, hmod, hmem, hsum, hout, hfb1, hfb2, -, hseq⟩ := (V.wf_iff c).mp hV
  simp only [Voice.router, Prod.mk.injEq] at hrouter
  obtain ⟨emod, emem, esum, efb1, efb2, eout, eseq⟩ := hrouter
  rw [Voice.wf_iff, emod, emem, esum, efb1, efb2, eout, eseq]
  exact ⟨hops, hmod, hmem, hsum, hout, hfb1, hfb2, hpeg, hseq⟩

theorem Voice.wf_ops {c : Cfg} {V : Voice} (hV : V.wf c = true) (o : OpNum) :
    (V.ops.get o).wf c = true := ((V.wf_iff c).mp hV).1 o

theorem Voice.wf_pegCur {c : Cfg} {V : Voice} (hV : V.wf c = true) : V.pegCur.toNat ≤ 0x7F80 := by
  obtain ⟨-, -, -, -, -, -, -, hpeg, -⟩ := (V.wf_iff c).mp hV
  exact hpeg

theorem regWrite_wf {c : Cfg} {V : Voice} (hV : V.wf c = true) (a : Addr) (d : Data) :
    (regWrite c V a d).wf c = true := by
  have hops := Voice.wf_ops hV
  have hpeg := Voice.wf_pegCur hV
  rcases regWrite_cases c V a d with ⟨o, r, -, hw⟩ | ⟨r, -, hw⟩ | ⟨-, hw⟩
  · rw [hw]
    refine Voice.wf_of_router_eq hV rfl (fun o' => ?_) hpeg
    rcases eq_or_ne o' o with rfl | hne
    · rw [PerOp.get_set_same]
      exact opRegWrite_wf (hops o') r d
    · rw [PerOp.get_set_ne _ _ hne]
      exact hops o'
  · rw [hw, voiceRegWrite_runtime]
    exact Voice.wf_of_router_eq hV rfl hops hpeg
  · rw [hw]
    exact hV

/-- A gate changes stages, which have no width to keep. -/
theorem keyOnVoice_wf {c : Cfg} {V : Voice} (hV : V.wf c = true) : (keyOnVoice V).wf c = true := by
  have hpeg := Voice.wf_pegCur hV
  refine Voice.wf_of_router_eq hV rfl (fun o => ?_) hpeg
  rw [keyOnVoice, lfoKeyOn, PerOp.get_map]
  exact Voice.wf_ops hV o

theorem keyOffVoice_wf {c : Cfg} {V : Voice} (hV : V.wf c = true) :
    (keyOffVoice V).wf c = true := by
  have hpeg := Voice.wf_pegCur hV
  refine Voice.wf_of_router_eq hV rfl (fun o => ?_) hpeg
  rw [keyOffVoice, PerOp.get_map]
  exact Voice.wf_ops hV o

/-- The pitch envelope stays in its range: a tick leaves it or moves it towards a target (R192). -/
theorem tickVoice_pegCur_le (c : Cfg) {V : Voice} (h : V.pegCur.toNat ≤ 0x7F80) :
    (tickVoice c V).pegCur.toNat ≤ 0x7F80 := by
  cases htoggle : V.pegToggle with
  | false =>
    obtain ⟨hcur, -⟩ := tickVoice_peg_of_toggle_clear c htoggle
    rwa [hcur]
  | true =>
    obtain ⟨hcur, -⟩ := tickVoice_peg_of_toggle_set c htoggle
    rw [hcur]
    exact pegMoved_le h

theorem tickVoice_wf {c : Cfg} {V : Voice} (hV : V.wf c = true) : (tickVoice c V).wf c = true := by
  obtain ⟨-, hrouter⟩ := tickVoice_sameSound c V
  refine Voice.wf_of_router_eq hV hrouter (fun o => ?_) (tickVoice_pegCur_le c (Voice.wf_pegCur hV))
  rw [tickVoice_ops]
  exact Voice.wf_ops hV o

theorem setCtrlVoice_wf {c : Cfg} {V : Voice} (hV : V.wf c = true) (n : Addr) (x : BitVec 7) :
    (setCtrlVoice c n x V).wf c = true := by
  unfold setCtrlVoice
  split <;> exact hV

/-! `SAMPLE`. -/

/-- The accumulators fit `ACC_W` and the feedback registers hold operator outputs. -/
structure RouterFits (c : Cfg) (V : Voice) : Prop where
  mod : fitsSigned c.accW V.mod = true
  mem : fitsSigned c.accW V.mem = true
  sum : fitsSigned c.accW V.sum = true
  fb1 : outputRange V.fb1 = true
  fb2 : outputRange V.fb2 = true

/-- One turn: every accumulator is left or wrapped, and the feedback registers shift an output
in. -/
theorem opEval_routerFits {c : Cfg} (hc : c.wf = true) {V : Voice} (h : RouterFits c V)
    (o : OpNum) : RouterFits c (opEval c V o) := by
  obtain ⟨-, -, -, -, hacc, -⟩ := Cfg.wf_widths hc
  have hout : outputRange (operatorOut c V o) = true :=
    (outputRange_iff _).mpr (operatorOut_outputSum hc V o)
  rw [opEval_eq]
  constructor
  case mod => exact swrap_fits hacc _
  case mem =>
    dsimp only
    split
    · exact swrap_fits hacc _
    · exact h.mem
  case sum =>
    dsimp only
    split
    · exact swrap_fits hacc _
    · exact h.sum
  case fb1 =>
    dsimp only
    split
    · exact hout
    · exact h.fb1
  case fb2 =>
    dsimp only
    split
    · exact h.fb1
    · exact h.fb2

theorem foldl_seqEval_routerFits {c : Cfg} (hc : c.wf = true) (l : List OpNum) {V : Voice}
    (h : RouterFits c V) : RouterFits c (l.foldl (seqEval c) V) := by
  induction l generalizing V with
  | nil => exact h
  | cons o l ih => exact ih (opEval_routerFits hc (V := { V with seq := o.num }) { h with } o)

theorem sampleVoice_wf {c : Cfg} (hc : c.wf = true) {V : Voice} (hV : V.wf c = true) :
    (sampleVoice c V).wf c = true := by
  obtain ⟨hops, hmod, hmem, -, -, hfb1, hfb2, hpeg, -⟩ := (V.wf_iff c).mp hV
  have hstart : RouterFits c { V with sum := 0 } := ⟨hmod, hmem, fitsSigned_zero _, hfb1, hfb2⟩
  have hend := foldl_seqEval_routerFits hc evalOrder hstart
  refine (Voice.wf_iff _ _).mpr
    ⟨fun o => ?_, hend.mod, hend.mem, hend.sum, hend.sum, hend.fb1, hend.fb2, ?_, rfl⟩
  · rw [sampleVoice_ops_get]
    exact operatorClocked_wf hc (hops o)
  · rw [sampleVoice_frame]
    exact hpeg

/-! Any command, and a step. -/

theorem voiceEffect_wf {c : Cfg} (hc : c.wf = true) (i : Instr) {V : Voice} (hV : V.wf c = true) :
    (voiceEffect c i V).wf c = true := by
  cases i with
  | wrReg v a d => exact regWrite_wf hV a d
  | keyOn v => exact keyOnVoice_wf hV
  | keyOff v => exact keyOffVoice_wf hV
  | sample v => exact sampleVoice_wf hc hV
  | tick v => exact tickVoice_wf hV
  | setCtrl v n x => exact setCtrlVoice_wf hV n x
  | setPbend v x => exact hV
  | _ => exact hV

/-- Every command keeps the state within its widths (R252). -/
theorem exec_keeps_wf {i : Instr} {s t : State} (hs : s.wf = true) (h : exec i s = .next t) :
    t.wf = true := by
  obtain ⟨hc, hlen, hvoices⟩ := s.wf_iff.mp hs
  obtain ⟨hcfg, hlen', -⟩ := exec_keeps_shape h
  rw [State.wf_iff, hcfg, hlen']
  exact ⟨hc, hlen, exec_keeps_all_voices h (fun _ => voiceEffect_wf hc i) hvoices⟩

/-- Taking a word off the port changes nothing that well-formedness reads. -/
theorem fetch_wf {s : State} (hs : s.wf = true) : (fetch s).2.wf = true := by
  rwa [State.wf_iff, fetch_cfg, fetch_voices, ← State.wf_iff]

/-- Settles O57: reset by `State.resetWith_wf`; a step fetches a word and executes its command. -/
theorem stepKeepsTheState : Obligations.StepKeepsTheState := by
  refine ⟨fun c => State.resetWith_wf, fun s hs => ?_⟩
  obtain ⟨t, ht⟩ := exec_total (decode (fetch s).1) (fetch s).2
  exact ⟨t, ht, exec_keeps_wf (fetch_wf hs) ht⟩

end Sys2Proof.Machine
end

section
/-! PROOFS. The three invariants after reset (R44, R162, R252, R262). -/

namespace Sys2Proof.Machine

/-- The default tables and parameters pass every check of R6: one evaluation of the checks. -/
theorem defaultCfg_wf : defaultCfg.wf = true := by decide +kernel

theorem defaultCfg_attWidths : defaultAttWidths defaultCfg = true := rfl

theorem defaultAttWidths_iff (c : Cfg) :
    defaultAttWidths c = true ↔ c.egW = 24 ∧ c.attW = 12 ∧ c.logW = 14 := by
  simp only [defaultAttWidths, Bool.and_eq_true, beq_iff_eq, and_assoc]

/-- An operator at the silent level codes, attenuated at least as far as they go (R262). -/
structure OpRec.Silent (p : OpRec) : Prop where
  level : p.egLevel = PerSeg.const 63
  cur : 0xFF0000 ≤ p.egCur

/-- The router registers that feed the next evaluation hold 0. -/
structure Voice.RouterClear (V : Voice) : Prop where
  mod : V.mod = 0
  mem : V.mem = 0
  sum : V.sum = 0
  fb1 : V.fb1 = 0
  fb2 : V.fb2 = 0

theorem Voice.unprogrammed_iff (V : Voice) :
    V.unprogrammed = true ↔ (∀ o, (V.ops.get o).Silent) ∧ V.RouterClear ∧ V.out = 0 := by
  have hops :
      V.ops.toList.all (fun p => p.egLevel == PerSeg.const 63 && 0xFF0000 ≤ p.egCur) = true ↔
        ∀ o, (V.ops.get o).Silent := by
    rw [PerOp.all_toList]
    refine forall_congr' fun o => ?_
    rw [Bool.and_eq_true, beq_iff_eq, decide_eq_true_eq]
    exact ⟨fun ⟨hlevel, hcur⟩ => ⟨hlevel, hcur⟩, fun h => ⟨h.level, h.cur⟩⟩
  simp only [Voice.unprogrammed, Bool.and_eq_true, hops, beq_iff_eq, and_assoc]
  constructor
  · rintro ⟨hops, hmod, hmem, hsum, hfb1, hfb2, hout⟩
    exact ⟨hops, ⟨hmod, hmem, hsum, hfb1, hfb2⟩, hout⟩
  · rintro ⟨hops, ⟨hmod, hmem, hsum, hfb1, hfb2⟩, hout⟩
    exact ⟨hops, hmod, hmem, hsum, hfb1, hfb2, hout⟩

theorem State.unprogrammed_iff (s : State) :
    s.unprogrammed = true ↔ ∀ V ∈ s.voices, V.unprogrammed = true := List.all_eq_true

theorem OpRec.reset_silent {c : Cfg} (hegW : c.egW = 24) : (OpRec.reset c).Silent :=
  ⟨rfl, by rw [OpRec.reset_egCur hegW]; decide⟩

theorem Voice.reset_unprogrammed {c : Cfg} (hegW : c.egW = 24) :
    (Voice.reset c).unprogrammed = true := by
  refine (Voice.unprogrammed_iff _).mpr ⟨fun o => ?_, ⟨rfl, rfl, rfl, rfl, rfl⟩, rfl⟩
  rw [Voice.reset_ops_get]
  exact OpRec.reset_silent hegW

theorem Voice.reset_noWrap (c : Cfg) : (Voice.reset c).noWrap = true :=
  have hzero : ∀ {n}, OutputSum n 0 := outputSum_zero.mono (Nat.zero_le _)
  (Voice.noWrap_iff _).mpr ⟨hzero, hzero, hzero, hzero, hzero⟩

theorem State.resetWith_noWrap (c : Cfg) : (State.resetWith c).noWrap = true :=
  (State.noWrap_iff _).mpr fun _ hV => eq_reset_of_mem hV ▸ Voice.reset_noWrap c

theorem State.resetWith_unprogrammed {c : Cfg} (hw : defaultAttWidths c = true) :
    (State.resetWith c).unprogrammed = true := by
  obtain ⟨hegW, -, -⟩ := (defaultAttWidths_iff c).mp hw
  exact (State.unprogrammed_iff _).mpr fun _ hV =>
    eq_reset_of_mem hV ▸ Voice.reset_unprogrammed hegW

/-- Settles O55: every record of the reset state is `Voice.reset`, which meets the three; and
`State.reset` is the reset of an accepted configuration with the default attenuation widths. -/
theorem resetMeetsTheInvariants : Obligations.ResetMeetsTheInvariants :=
  ⟨fun c hc => ⟨State.resetWith_wf hc, State.resetWith_noWrap c, State.resetWith_unprogrammed⟩,
    State.resetWith_wf defaultCfg_wf, State.resetWith_noWrap defaultCfg,
    State.resetWith_unprogrammed defaultCfg_attWidths⟩

end Sys2Proof.Machine
end

section
/-! PROOFS. The silence of unprogrammed voices (R262): the envelope of a silent operator stays in
the silent range, its output there is 0, and zeros are all that the router then moves. -/

namespace Sys2Proof.Machine

/-! A silent operator: its target, its clock and its output. -/

/-- Every level of a silent operator asks for the largest target, whatever `OLATT` adds (R124). -/
theorem OpRec.Silent.egTarget_eq {c : Cfg} (hegW : c.egW = 24) {p : OpRec} (hp : p.Silent)
    (st : EgStage) : egTarget c p st = 0xFF0000 := by
  have hcode : att8 63 = 255 := by decide
  rw [egTarget_eq_mul, hp.level, PerSeg.get_const, hcode, hegW,
    Nat.min_eq_left (Nat.le_add_right _ _)]
  rfl

/-- A clock moves the attenuation between its value and the target, both in the silent range. -/
theorem OpRec.Silent.le_egMoved {c : Cfg} (hegW : c.egW = 24) {p : OpRec} (hp : p.Silent) :
    0xFF0000 ≤ egMoved c p := by
  have hmin := (moveToward_between p.egCur (egTarget c p p.egStage) (egInc c p p.egStage)).1
  rw [hp.egTarget_eq hegW, Nat.min_eq_right hp.cur] at hmin
  rwa [egMoved, hp.egTarget_eq hegW]

theorem OpRec.Silent.egClock {c : Cfg} (hegW : c.egW = 24) {p : OpRec} (hp : p.Silent) :
    (egClock c p).Silent := ⟨hp.level, hp.le_egMoved hegW⟩

theorem OpRec.Silent.le_egAtt {c : Cfg} (hegW : c.egW = 24) (hattW : c.attW = 12) {p : OpRec}
    (hp : p.Silent) : 0xFF0 ≤ egAtt c p := by
  have hcur := hp.cur
  rw [egAtt_eq_div, hegW, hattW]
  omega

/-- An envelope output of 0xFF0 alone is an attenuation of more than fourteen octaves, so the
magnitude is 0 (R147, R148). -/
theorem toneMag_eq_zero {c : Cfg} (hc : c.wf = true) (hlogW : c.logW = 14) {att : Nat}
    (h : 0xFF0 ≤ att) (phi am : Nat) (com : Fin 8) : toneMag c phi att am com = 0 := by
  refine expLin_eq_zero hc ?_
  rw [attSum_eq, hlogW]
  omega

theorem toneOut_eq_zero {c : Cfg} (hc : c.wf = true) (hlogW : c.logW = 14) {att : Nat}
    (h : 0xFF0 ≤ att) (phi am : Nat) (com : Fin 8) : toneOut c phi att am com = 0 := by
  rw [toneOut_eq (Cfg.wf_phiW hc), toneMag_eq_zero hc hlogW h, Int.ofNat_zero, Int.neg_zero,
    ite_self]

theorem operatorOut_eq_zero {c : Cfg} (hc : c.wf = true) (hw : defaultAttWidths c = true)
    {V : Voice} {o : OpNum} (hp : (V.ops.get o).Silent) : operatorOut c V o = 0 := by
  obtain ⟨hegW, hattW, hlogW⟩ := (defaultAttWidths_iff c).mp hw
  exact toneOut_eq_zero hc hlogW ((hp.egClock hegW).le_egAtt hegW hattW) _ _ _

/-! The router, and `SAMPLE`. -/

/-- Every source of modulation is 0 when the output and the registers are (R153). -/
theorem modSel_of_clear (c : Cfg) (sel : Sel) {V : Voice} (hmem : V.mem = 0) (hsum : V.sum = 0)
    (hfb1 : V.fb1 = 0) (hfb2 : V.fb2 = 0) : modSel c sel 0 V = 0 := by
  cases sel with
  | own => exact asr_zero _
  | sum => rw [modSel, hsum, asr_zero]
  | mem => rw [modSel, hmem, asr_zero]
  | fb1 => rw [modSel, hfb1, asr_zero]
  | fbPair => rw [modSel, hfb1, hfb2, Int.add_zero, asr_zero, ite_self]
  | _ => rfl

theorem swrap_zero (n : Nat) : swrap n 0 = 0 := Int.zero_bmod

/-- A turn whose operator gives 0 leaves a clear router clear. -/
theorem opEval_routerClear {c : Cfg} {V : Voice} {o : OpNum} (hout : operatorOut c V o = 0)
    (h : V.RouterClear) : (opEval c V o).RouterClear := by
  have hmem : (opEval c V o).mem = 0 := by
    rw [opEval_eq, hout, h.mem, ite_self, Int.add_zero, swrap_zero, ite_self]
  have hsum : (opEval c V o).sum = 0 := by
    rw [opEval_eq]
    dsimp only
    rw [hout, h.sum, Int.add_zero, swrap_zero, ite_self]
  have hfb1 : (opEval c V o).fb1 = 0 := by rw [opEval_eq, hout, h.fb1, ite_self]
  have hfb2 : (opEval c V o).fb2 = 0 := by rw [opEval_eq, h.fb1, h.fb2, ite_self]
  have hmod : (opEval c V o).mod = 0 := by
    rw [opEval_eq, hout, modSel_of_clear c _ hmem hsum hfb1 hfb2, swrap_zero]
  exact ⟨hmod, hmem, hsum, hfb1, hfb2⟩

theorem operatorClocked_silent {c : Cfg} (hegW : c.egW = 24) {V : Voice} {o : OpNum}
    (hp : (V.ops.get o).Silent) : (operatorClocked c V o).Silent :=
  ⟨hp.level, hp.le_egMoved hegW⟩

theorem seqEval_silent {c : Cfg} (hegW : c.egW = 24) {V : Voice}
    (h : ∀ o, (V.ops.get o).Silent) (o o' : OpNum) : ((seqEval c V o).ops.get o').Silent := by
  rcases eq_or_ne o' o with rfl | hne
  · rw [seqEval_ops_get_same]
    exact operatorClocked_silent hegW (h o')
  · rw [seqEval_ops_get_ne c V hne]
    exact h o'

/-- The turns of a list of operators in a voice of silent operators and a clear router. -/
theorem foldl_seqEval_routerClear {c : Cfg} (hc : c.wf = true) (hw : defaultAttWidths c = true)
    (l : List OpNum) {V : Voice} (hops : ∀ o, (V.ops.get o).Silent) (h : V.RouterClear) :
    (l.foldl (seqEval c) V).RouterClear := by
  obtain ⟨hegW, -, -⟩ := (defaultAttWidths_iff c).mp hw
  induction l generalizing V with
  | nil => exact h
  | cons o l ih =>
    have hout : operatorOut c { V with seq := o.num } o = 0 := operatorOut_eq_zero hc hw (hops o)
    exact ih (seqEval_silent hegW hops o) (opEval_routerClear hout { h with })

theorem sampleVoice_routerClear {c : Cfg} (hc : c.wf = true) (hw : defaultAttWidths c = true)
    {V : Voice} (hops : ∀ o, (V.ops.get o).Silent) (h : V.RouterClear) :
    (sampleVoice c V).RouterClear ∧ (sampleVoice c V).out = 0 := by
  have hend : (evalOrder.foldl (seqEval c) { V with sum := 0 }).RouterClear :=
    foldl_seqEval_routerClear hc hw evalOrder hops { h with sum := rfl }
  exact ⟨{ hend with }, hend.sum⟩

theorem sampleVoice_unprogrammed {c : Cfg} (hc : c.wf = true) (hw : defaultAttWidths c = true)
    {V : Voice} (h : V.unprogrammed = true) : (sampleVoice c V).unprogrammed = true := by
  obtain ⟨hegW, -, -⟩ := (defaultAttWidths_iff c).mp hw
  obtain ⟨hops, hclear, -⟩ := V.unprogrammed_iff.mp h
  refine (Voice.unprogrammed_iff _).mpr ⟨fun o => ?_, sampleVoice_routerClear hc hw hops hclear⟩
  rw [sampleVoice_ops_get]
  exact operatorClocked_silent hegW (hops o)

/-! The other commands, and a run. -/

/-- Only `WR_REG` writes a level code. -/
theorem voiceEffect_egLevel (c : Cfg) {i : Instr} (V : Voice) (hi : isWriteCmd i = false)
    (o : OpNum) : ((voiceEffect c i V).ops.get o).egLevel = (V.ops.get o).egLevel := by
  cases i with
  | wrReg v a d => cases hi
  | keyOn v => simp only [voiceEffect, keyOnVoice, lfoKeyOn, PerOp.get_map]
  | keyOff v => simp only [voiceEffect, keyOffVoice, PerOp.get_map]
  | sample v => rw [voiceEffect, sampleVoice_ops_get, operatorClocked_egLevel]
  | tick v => rw [voiceEffect, tickVoice_ops]
  | setCtrl v n x => rw [voiceEffect, setCtrlVoice_ops]
  | _ => rfl

/-- A voice of the same sound and level codes is as silent. -/
theorem SameSound.unprogrammed {V W : Voice} (h : SameSound W V)
    (hlevel : ∀ o, (W.ops.get o).egLevel = (V.ops.get o).egLevel) (hV : V.unprogrammed = true) :
    W.unprogrammed = true := by
  obtain ⟨hsound, hrouter⟩ := h
  simp only [Voice.router, Prod.mk.injEq] at hrouter
  obtain ⟨hmod, hmem, hsum, hfb1, hfb2, hout, -⟩ := hrouter
  obtain ⟨hops, hclear, hzero⟩ := V.unprogrammed_iff.mp hV
  refine W.unprogrammed_iff.mpr ⟨fun o => ?_, ?_, hout.trans hzero⟩
  · obtain ⟨-, hcur⟩ := hsound o
    exact ⟨(hlevel o).trans (hops o).level, (hops o).cur.trans_eq hcur.symm⟩
  · exact ⟨hmod.trans hclear.mod, hmem.trans hclear.mem, hsum.trans hclear.sum,
      hfb1.trans hclear.fb1, hfb2.trans hclear.fb2⟩

theorem voiceEffect_unprogrammed {c : Cfg} (hc : c.wf = true) (hw : defaultAttWidths c = true)
    {i : Instr} (hi : isWriteCmd i = false) {V : Voice} (hV : V.unprogrammed = true) :
    (voiceEffect c i V).unprogrammed = true := by
  by_cases hop : i.opcode = .sample
  · cases i with
    | sample v => exact sampleVoice_unprogrammed hc hw hV
    | _ => cases hop
  · exact (voiceEffect_sameSound c V hop).unprogrammed (voiceEffect_egLevel c V hi) hV

/-- Settles O58: a command replaces at most one record, by `voiceEffect`; `SAMPLE` of a silent voice
adds up zeros, and every other effect but a write keeps the sound and the level codes. -/
theorem unprogrammedVoicesStaySilent : Obligations.UnprogrammedVoicesStaySilent := by
  intro i s t hs hw hsilent hi h
  obtain ⟨hc, -, -⟩ := s.wf_iff.mp hs
  rw [State.unprogrammed_iff] at hsilent ⊢
  exact exec_keeps_all_voices h (fun _ => voiceEffect_unprogrammed hc hw hi) hsilent

/-- What a run without writes keeps: the state is well-formed, of the default attenuation widths,
and no voice is programmed. -/
structure State.Unwritten (s : State) : Prop where
  wf : s.wf = true
  widths : defaultAttWidths s.cfg = true
  silent : s.unprogrammed = true

theorem State.resetWith_unwritten {c : Cfg} (hc : c.wf = true) (hw : defaultAttWidths c = true) :
    (State.resetWith c).Unwritten :=
  ⟨State.resetWith_wf hc, hw, State.resetWith_unprogrammed hw⟩

theorem exec_keeps_unwritten {i : Instr} {s t : State} (hi : isWriteCmd i = false)
    (hs : s.Unwritten) (h : exec i s = .next t) : t.Unwritten := by
  obtain ⟨hcfg, -⟩ := exec_keeps_shape h
  exact ⟨exec_keeps_wf hs.wf h, hcfg ▸ hs.widths,
    unprogrammedVoicesStaySilent i s t hs.wf hs.widths hs.silent hi h⟩

theorem State.Unwritten.out_eq_zero {s : State} (hs : s.Unwritten) {v : VoiceNum} {V : Voice}
    (hV : voiceAt s v = some V) : V.out = 0 := by
  obtain ⟨-, -, hout⟩ :=
    V.unprogrammed_iff.mp ((State.unprogrammed_iff s).mp hs.silent V (voiceAt_mem hV))
  exact hout

/-- Settles O59: `State.Unwritten` holds after reset and each command of the list keeps it. -/
theorem noWriteMeansSilence : Obligations.NoWriteMeansSilence := by
  intro c l hc hw hl
  obtain ⟨t, hrun, ht⟩ := runCmds_keeps (fun i hi _ _ => exec_keeps_unwritten (hl i hi))
    (State.resetWith_unwritten hc hw)
  exact ⟨t, hrun, fun v V => ht.out_eq_zero⟩

end Sys2Proof.Machine
end

section
/-! PROOFS. Behaviour straight after reset (R262): the status reads, a `SAMPLE` at pitch 0, a `TICK`
of an LFO without depth, and a `KEY_OFF` of envelopes in End. -/

namespace Sys2Proof.Machine

/-! The status reads. -/

/-- Twelve of the 24 bits of the largest attenuation are visible (R129). -/
theorem egAtt_reset {c : Cfg} (hegW : c.egW = 24) (hattW : c.attW = 12) :
    egAtt c (OpRec.reset c) = 0xFFF := by
  rw [egAtt_eq_div, OpRec.reset_egCur hegW, hegW, hattW]
  rfl

theorem exec_status_reset {c : Cfg} {v : VoiceNum} (hv : v.toNat < c.nvoice) (r : StatusReg) :
    exec (.rdReg v (statusRegAddr r)) (State.resetWith c) =
      .next (putDout (State.resetWith c) (statusRead c (Voice.reset c) r)) := by
  rw [exec_rdReg_some _ (voiceAt_resetWith hv), regRead_statusRegAddr]
  rfl

theorem statusRead_reset_complete (c : Cfg) : statusRead c (Voice.reset c) .complete = 1 :=
  statusRead_complete_of_ended c fun o => by rw [Voice.reset_ops_get]; rfl

theorem statusRead_reset_egAtt {c : Cfg} (hegW : c.egW = 24) (hattW : c.attW = 12) (o : OpNum) :
    statusRead c (Voice.reset c) (.egAtt o) = 0xFFF := by
  rw [statusRead, Voice.reset_ops_get, egAtt_reset hegW hattW]
  rfl

theorem statusRead_reset_egStage (c : Cfg) (o : OpNum) :
    statusRead c (Voice.reset c) (.egStage o) = 5 := by
  rw [statusRead, Voice.reset_ops_get]
  rfl

/-! The pitch after reset. -/

theorem pmod_reset (c : Cfg) : pmod c (Voice.reset c) = 0 := by
  have hpout : (Voice.reset c).lfoPout.toInt = 0 := rfl
  rw [pmod, hpout, Int.zero_mul, asr_zero]

/-- Bend and pitch envelope are at their centres (R193, R207). -/
theorem voicePitch_reset (c : Cfg) : voicePitch c (Voice.reset c) = 0 := by
  have hvpitch : (Voice.reset c).vpitch.toNat = 0 := rfl
  have hpegCur : (Voice.reset c).pegCur = 0x4000 := rfl
  have hcentre : (0x4000 : BitVec 15).toNat = 16384 := by decide
  rw [voicePitch_eq, pbOff_of_centre c rfl, hvpitch, hpegCur, hcentre]
  decide

theorem pitchOffset_reset (c : Cfg) (o : OpNum) : pitchOffset c (Voice.reset c) o = 0 := by
  have hdetune : (OpRec.reset c).detune.toInt = 0 := rfl
  rw [pitchOffset, Voice.reset_ops_get, hdetune, pmod_reset, Int.zero_mul, Int.add_zero]

theorem operatorPitch_reset (c : Cfg) (o : OpNum) : operatorPitch c (Voice.reset c) o = 0 := by
  have hpitch : (OpRec.reset c).pitch.toInt = 0 := rfl
  have hmode : ((Voice.reset c).ops.get o).mode = 0 := by rw [Voice.reset_ops_get]; rfl
  rw [operatorPitch_ratio c hmode, Voice.reset_ops_get, hpitch, voicePitch_reset, pitchOffset_reset]
  rfl

/-- The increment of pitch 0 is the first mantissa in the lowest octave (R209). -/
theorem pinc_reset {c : Cfg} (hc : c.wf = true) (o : OpNum) :
    pinc c (Voice.reset c) o = tbl c.freqm 0 / 256 % 2 ^ c.phaseW := by
  have hscaled : pitchScaled c 0 = tbl c.freqm 0 := Nat.mul_one _
  rw [pinc, operatorPitch_reset, Int.toNat_zero, pitchInc_eq_mod hc, hscaled]

theorem phaseAfter_reset {c : Cfg} (hc : c.wf = true) (o : OpNum) :
    phaseAfter c (Voice.reset c) o = tbl c.freqm 0 / 256 % 2 ^ c.phaseW := by
  have hphase : (OpRec.reset c).phase = 0 := rfl
  rw [phaseAfter, Voice.reset_ops_get, hphase, pinc_reset hc, Nat.zero_add, wrap, Nat.mod_mod]

/-! `SAMPLE`. -/

/-- The clock keeps an envelope that holds (R120). -/
theorem egClock_of_holds (c : Cfg) {p : OpRec} (h : stageHolds p.egStage = true) :
    egClock c p = p := by rw [egClock, egMoved_of_holds h, egStageAfter_of_holds h]

/-- A voice record after reset but for the phase of every operator. -/
def Voice.resetAtPhase (c : Cfg) (phase : Nat) : Voice :=
  { Voice.reset c with ops := PerOp.const { OpRec.reset c with phase := phase } }

theorem sampleVoice_reset_ops {c : Cfg} (hc : c.wf = true) :
    (sampleVoice c (Voice.reset c)).ops =
      PerOp.const { OpRec.reset c with phase := tbl c.freqm 0 / 256 % 2 ^ c.phaseW } :=
  PerOp.ext_get fun o => by
    rw [sampleVoice_ops_get, operatorClocked_eq, Voice.reset_ops_get, egClock_of_holds c rfl,
      phaseAfter_reset hc, PerOp.get_const]

/-- A `SAMPLE` after reset is silent and moves the phases alone. -/
theorem sampleVoice_reset {c : Cfg} (hc : c.wf = true) (hw : defaultAttWidths c = true) :
    sampleVoice c (Voice.reset c) =
      Voice.resetAtPhase c (tbl c.freqm 0 / 256 % 2 ^ c.phaseW) := by
  obtain ⟨hegW, -, -⟩ := (defaultAttWidths_iff c).mp hw
  have hsilent := sampleVoice_unprogrammed hc hw (Voice.reset_unprogrammed hegW)
  obtain ⟨-, hclear, hout⟩ := (Voice.unprogrammed_iff _).mp hsilent
  rw [sampleVoice_frame, sampleVoice_reset_ops hc, hclear.mod, hclear.mem, hclear.sum, hclear.fb1,
    hclear.fb2, hout]
  rfl

/-! `TICK`. -/

theorem mixDest_reset (c : Cfg) (n : Nat) : mixDest c (Voice.reset c) n = 0 := by
  have hassign : ∀ k, ((Voice.reset c).mixAssign.get k).getLsbD n = false := fun k => by
    rw [Voice.reset, PerCtrl.get_const]
    exact BitVec.getLsbD_zero
  have hsum : (Ctrl.all.map fun k =>
      if ((Voice.reset c).mixAssign.get k).getLsbD n then scaled c (Voice.reset c) k else 0).sum
        = 0 := by
    simp only [hassign, Bool.false_eq_true, if_false]
    rfl
  rw [mixDest, hsum, Nat.min_zero]

/-- With a depth register and a mixer sum of 0 the faded depth is 0 (R177). -/
theorem tickDepth_eq_zero (c : Cfg) (V : Voice) : tickDepth c V 0 0 = 0 := by
  rw [tickDepth_eq]
  simp

theorem tickVoice_reset_lfoPout (c : Cfg) : (tickVoice c (Voice.reset c)).lfoPout = 0 := by
  have hmix : mixP c (Voice.reset c) = 0 := mixDest_reset c 0
  have hdepth : tickDepth c (Voice.reset c) (Voice.reset c).lfoPmd 0 = 0 := tickDepth_eq_zero c _
  rw [tickVoice_lfoPout, hmix, hdepth, lfoPitchOut_eq, Int.ofNat_zero, Int.mul_zero]
  rfl

theorem tickVoice_reset_lfoAout (c : Cfg) : (tickVoice c (Voice.reset c)).lfoAout = 0 := by
  have hmix : mixA c (Voice.reset c) = 0 := mixDest_reset c 1
  have hdepth : tickDepth c (Voice.reset c) (Voice.reset c).lfoAmd 0 = 0 := tickDepth_eq_zero c _
  rw [tickVoice_lfoAout, hmix, hdepth, lfoAmpOut_eq, Nat.mul_zero]
  rfl

/-- The delay accumulator stays at 0 with the increment 0 (R173). -/
theorem lfoGate_reset (c : Cfg) : lfoGate (Voice.reset c) = Voice.reset c :=
  lfoGate_of_delay rfl

theorem tickVoice_reset (c : Cfg) :
    tickVoice c (Voice.reset c) = { Voice.reset c with pegToggle := true } := by
  have htoggle : (Voice.reset c).pegToggle = false := rfl
  have hphase : (Voice.reset c).lfoPhase.toNat + (Voice.reset c).lfoInc.toNat = 0 := rfl
  obtain ⟨hpegCur, hpegStage⟩ := tickVoice_peg_of_toggle_clear c htoggle
  rw [tickVoice_frame, tickVoice_lfoDelayAcc, tickVoice_lfoFadeAcc, tickVoice_lfoStage,
    lfoGate_reset, tickVoice_lfoPhase, tickVoice_lfoRand, hphase, if_neg (by decide),
    tickVoice_reset_lfoPout, tickVoice_reset_lfoAout, hpegCur, hpegStage, htoggle]
  rfl

/-! `KEY_OFF`. -/

/-- End is past Release, so nothing is released (R127, R194). -/
theorem keyOffVoice_reset (c : Cfg) : keyOffVoice (Voice.reset c) = Voice.reset c := rfl

/-- Settles O56: every voice is `Voice.reset c`, and each command is followed on that record. -/
theorem behaviourAfterReset : Obligations.BehaviourAfterReset := by
  intro c v hc hw hv s V
  obtain ⟨hegW, hattW, -⟩ := (defaultAttWidths_iff c).mp hw
  have hV : voiceAt s v = some V := voiceAt_resetWith hv
  refine ⟨⟨?_, exec_status_reset hv .out, fun o => ?_, fun o => ?_⟩, ?_, ?_, ?_⟩
  · rw [exec_status_reset hv, statusRead_reset_complete]
  · rw [exec_status_reset hv, statusRead_reset_egAtt hegW hattW]
  · rw [exec_status_reset hv, statusRead_reset_egStage]
  · have hsample : sampleVoice s.cfg V = _ := sampleVoice_reset hc hw
    rw [exec_sample_some hV, hsample]
    rfl
  · have htick : tickVoice s.cfg V = _ := tickVoice_reset c
    rw [exec_tick_some hV, htick]
  · have hkeep : exec (.keyOff v) s = .next (putVoice s v (keyOffVoice V)) := onVoice_some _ hV
    rw [hkeep, keyOffVoice_reset, putVoice_self hV]

end Sys2Proof.Machine
end
